-- ==== Sys2Proof/Word.lean ====
section
/-! DEFINITION. The word types of the block: bytes, 16-bit fields and 64-bit times (00_scope R6, R7). -/

namespace Sys2Proof

/-- A byte: 8 bits, bit 7 the most significant (R7). -/
abbrev Byte := BitVec 8

/-- A 16-bit field: a device number or a message period (R27). -/
abbrev Half := BitVec 16

/-- A timestamp or a stream offset: `TIME_W = 64` bits (R6, R32, R33). -/
abbrev Time := BitVec 64

/-- A byte sequence that is one whole encoded frame (R90). -/
abbrev Frame := List Byte

end Sys2Proof
end

