-- ==== Sys2Proof/Config.lean ====
section
/-! DEFINITION. The implementation parameters of 00_scope rule R6, as one record that the machine's state carries,
so that a claim can name or quantify over every one of them; and the free values of the model. -/

namespace Sys2Proof

/-- The 15 message kinds (R99, R100), in the order of the table of R100. -/
inductive Kind
  | channelEvent | unassignChannel | assignChannel | setPeriod | setRfFreq | openChannel | closeChannel
  | requestMessage | broadcastData | acknowledgedData | burstData | setChannelId
  | capabilities | serialNumber | startup
  deriving DecidableEq, Repr

/-- Every kind, once. -/
def Kind.all : List Kind :=
  [.channelEvent, .unassignChannel, .assignChannel, .setPeriod, .setRfFreq, .openChannel, .closeChannel,
   .requestMessage, .broadcastData, .acknowledgedData, .burstData, .setChannelId,
   .capabilities, .serialNumber, .startup]

/-- The parameters of R6. Constraints: `Config.wf` in WellFormed.lean. -/
structure Config where
  /-- `SYNC_BYTE`, the fixed first byte of every frame (R91). -/
  syncByte : Byte
  /-- `LEN_BIAS`: a frame's content has `LEN - LEN_BIAS` bytes; 0 or 1 (R92, C1). -/
  lenBias : Nat
  /-- `MAX_CONTENT`, the longest content `ENCODE` accepts (R131). -/
  maxContent : Nat
  /-- `N_CH`: the channel count of the examples, with which `State.reset` stands opened. -/
  nCh : Nat
  /-- `ACK_TIMEOUT`: the default of `ENGINE_OPEN`'s `ack_timeout` operand (R23). -/
  ackTimeout : Time
  /-- `MAX_RETRIES`: the default of `ENGINE_OPEN`'s `max_retries` operand (R23). -/
  maxRetries : Byte
  /-- `RXBUF_CAP`, the capacity of the RX buffer in bytes (R31). -/
  rxbufCap : Nat
  idChannelEvent : Byte
  idUnassignChannel : Byte
  idAssignChannel : Byte
  idSetPeriod : Byte
  idSetRfFreq : Byte
  idOpenChannel : Byte
  idCloseChannel : Byte
  idRequestMessage : Byte
  idBroadcastData : Byte
  idAcknowledgedData : Byte
  idBurstData : Byte
  idSetChannelId : Byte
  idCapabilities : Byte
  idSerialNumber : Byte
  idStartup : Byte
  evRxSearchTimeout : Byte
  evTransferTxCompleted : Byte
  evTransferTxFailed : Byte
  evRxFailGoToSearch : Byte
  /-- `PAIRING_BIT_POS`: the bit of the device-type byte that carries the pairing flag (R106). -/
  pairingBitPos : Nat
  /-- `BURST_CH_BITS`: the low bits of a burst's first content byte that hold the channel number (R105). -/
  burstChBits : Nat
  /-- `CHTYPE_RECEIVE`: used by the example programs only (D48). -/
  chTypeReceive : Byte
  deriving DecidableEq, Repr

/-- The defaults of R6, R100 and R104. -/
def Config.default : Config where
  syncByte := 0xA4#8
  lenBias := 1
  maxContent := 9
  nCh := 8
  ackTimeout := 50#64
  maxRetries := 3#8
  rxbufCap := 512
  idChannelEvent := 0x40#8
  idUnassignChannel := 0x41#8
  idAssignChannel := 0x42#8
  idSetPeriod := 0x43#8
  idSetRfFreq := 0x45#8
  idOpenChannel := 0x4B#8
  idCloseChannel := 0x4C#8
  idRequestMessage := 0x4D#8
  idBroadcastData := 0x4E#8
  idAcknowledgedData := 0x4F#8
  idBurstData := 0x50#8
  idSetChannelId := 0x51#8
  idCapabilities := 0x54#8
  idSerialNumber := 0x61#8
  idStartup := 0x6F#8
  evRxSearchTimeout := 0x01#8
  evTransferTxCompleted := 0x05#8
  evTransferTxFailed := 0x06#8
  evRxFailGoToSearch := 0x08#8
  pairingBitPos := 7
  burstChBits := 5
  chTypeReceive := 0x00#8

/-- The `MSG_ID` byte of a kind: its `ID_*` parameter (R100). -/
def Config.idOf (cfg : Config) : Kind → Byte
  | .channelEvent => cfg.idChannelEvent
  | .unassignChannel => cfg.idUnassignChannel
  | .assignChannel => cfg.idAssignChannel
  | .setPeriod => cfg.idSetPeriod
  | .setRfFreq => cfg.idSetRfFreq
  | .openChannel => cfg.idOpenChannel
  | .closeChannel => cfg.idCloseChannel
  | .requestMessage => cfg.idRequestMessage
  | .broadcastData => cfg.idBroadcastData
  | .acknowledgedData => cfg.idAcknowledgedData
  | .burstData => cfg.idBurstData
  | .setChannelId => cfg.idSetChannelId
  | .capabilities => cfg.idCapabilities
  | .serialNumber => cfg.idSerialNumber
  | .startup => cfg.idStartup

/-- The 15 message ids, in table order. -/
def Config.ids (cfg : Config) : List Byte := Kind.all.map cfg.idOf

/-- The four event codes the engine acts on (R104). -/
def Config.eventCodes (cfg : Config) : List Byte :=
  [cfg.evRxSearchTimeout, cfg.evTransferTxCompleted, cfg.evTransferTxFailed, cfg.evRxFailGoToSearch]

/-- FREE VALUE (assumption 3): the bits `GET_CHANNEL` shows for an 8-bit field that holds no value (R285): one byte
for every read (first argument) and field (second argument). Nothing constrains it. -/
opaque Config.unspecifiedByte : Nat → Nat → Byte

/-- FREE VALUE (assumption 3): the same for the 7-bit device type. -/
opaque Config.unspecifiedSeven : Nat → BitVec 7

/-- FREE VALUE (assumption 3): the same for the two 16-bit fields. -/
opaque Config.unspecifiedHalf : Nat → Nat → Half

/-- FREE VALUE (assumption 19): the device type a `SET_CHANNEL_ID` content carries when the record's device type (last
argument) does not leave the pairing bit clear, a case R106 gives no byte for. It is a function of the parameters and of
what R106 assembles the byte from, since `Content` is a function (R110). Nothing constrains it. -/
opaque Config.unstatedDevType : Config → Bool → Byte → Byte

/-- FREE VALUE (assumption 19): the same for the sequence field of a `BURST_DATA` content, when the record's sequence
(second argument) has no room above the channel bits (R105); the last argument is the channel. -/
opaque Config.unstatedSeq : Config → Byte → Byte → Byte

end Sys2Proof
end

