-- ==== Sys2Proof/Syntax.lean ====
section
/-! DEFINITION. The instructions of the block, one constructor per row of spec/opcode_table.json (R5: an instruction is
one operation of the engine: the handling of one inbound frame, a host command, a service pass or a codec primitive),
and the records they carry. -/

namespace Sys2Proof

/-- The 8 data bytes of a data message: always exactly 8 (R103, D43). -/
structure Payload where
  d0 : Byte
  d1 : Byte
  d2 : Byte
  d3 : Byte
  d4 : Byte
  d5 : Byte
  d6 : Byte
  d7 : Byte
  deriving DecidableEq, Repr

/-- The ports operations arrive on (R120). -/
inductive Port
  | host | service | codec
  deriving DecidableEq, Repr

/-- A message: the decoded form of a frame, one constructor per kind with the fields R103 lists (R98). `devType` and
`seq` are held in a byte so that the record fits every value of `PAIRING_BIT_POS` and `BURST_CH_BITS`; their widths are
`Message.wellTyped`. -/
inductive Message
  | assignChannel (chan chanType network : Byte)
  | unassignChannel (chan : Byte)
  | setChannelId (chan : Byte) (devNumber : Half) (devType : Byte) (pairing : Bool) (transType : Byte)
  | setRfFreq (chan rfFreq : Byte)
  | setPeriod (chan : Byte) (period : Half)
  | openChannel (chan : Byte)
  | closeChannel (chan : Byte)
  | requestMessage (chan reqId : Byte)
  | broadcastData (chan : Byte) (data : Payload)
  | acknowledgedData (chan : Byte) (data : Payload)
  | burstData (chan seq : Byte) (data : Payload)
  | channelEvent (chan initId code : Byte)
  | capabilities (raw : List Byte)
  | serialNumber (raw : List Byte)
  | startup (raw : List Byte)
  deriving DecidableEq, Repr

/-- The kind of a message. -/
def Message.kind : Message → Kind
  | .assignChannel .. => .assignChannel
  | .unassignChannel .. => .unassignChannel
  | .setChannelId .. => .setChannelId
  | .setRfFreq .. => .setRfFreq
  | .setPeriod .. => .setPeriod
  | .openChannel .. => .openChannel
  | .closeChannel .. => .closeChannel
  | .requestMessage .. => .requestMessage
  | .broadcastData .. => .broadcastData
  | .acknowledgedData .. => .acknowledgedData
  | .burstData .. => .burstData
  | .channelEvent .. => .channelEvent
  | .capabilities .. => .capabilities
  | .serialNumber .. => .serialNumber
  | .startup .. => .startup

/-- Why `ENCODE` refuses (R131, R302). -/
inductive EncodeError
  | unrecognizedId | tooLong
  deriving DecidableEq, Repr

/-- The three answers of `DECODE` (R135). -/
inductive Verdict
  | needMoreData (skip : Nat)
  | checksumError (skip : Nat)
  | frame (id : Byte) (content : List Byte) (consumed : Nat)
  deriving DecidableEq, Repr

/-- The three answers of `Parse` (R111). -/
inductive Parsed
  | msg (m : Message)
  | unknownId
  | malformed
  deriving DecidableEq, Repr

/-- Why a presented word is no operation of the port it came on (R120, R352, U10, U11). -/
inductive DecodeError
  /-- The word is empty: it has no opcode. -/
  | noOpcode
  /-- An opcode `0x15` to `0xFF`, or one that belongs to another port. -/
  | unassignedOpcode
  /-- Too few or too many operand bytes. -/
  | operandCount
  /-- An operand byte sets bits above the operand's width. -/
  | operandWidth
  /-- On the wire: the bytes are not one whole frame. -/
  | notAFrame
  deriving DecidableEq, Repr

/-- One constructor per row of spec/opcode_table.json. The `msg…` constructors are the handling of one checksum-valid
inbound frame of that kind (its content bytes uninterpreted, as `Dispatch(id, content)` of R200 takes them); the `evt…`
constructors are the four rows of format FRAME_EVENT; the others are the 21 operations of R120. -/
inductive Instr
  -- rows of format FRAME (R100)
  | msgChannelEvent (content : List Byte)
  | msgUnassignChannel (content : List Byte)
  | msgAssignChannel (content : List Byte)
  | msgSetPeriod (content : List Byte)
  | msgSetRfFreq (content : List Byte)
  | msgOpenChannel (content : List Byte)
  | msgCloseChannel (content : List Byte)
  | msgRequestMessage (content : List Byte)
  | msgBroadcastData (content : List Byte)
  | msgAcknowledgedData (content : List Byte)
  | msgBurstData (content : List Byte)
  | msgSetChannelId (content : List Byte)
  | msgCapabilities (content : List Byte)
  | msgSerialNumber (content : List Byte)
  | msgStartup (content : List Byte)
  | msgUnrecognizedId (id : Byte) (content : List Byte)
  -- rows of format FRAME_EVENT (R104)
  | evtRxSearchTimeout (chan initId : Byte)
  | evtTransferTxCompleted (chan initId : Byte)
  | evtTransferTxFailed (chan initId : Byte)
  | evtRxFailGoToSearch (chan initId : Byte)
  -- rows of format HOST_OP (R120)
  /-- `none` where the host passes no value: the default of R6 is taken (R23, R41). -/
  | engineOpen (n : BitVec 9) (ackTimeout : Option Time) (maxRetries : Option Byte)
  | engineClose
  | assign (ch chanType network : Byte)
  | unassign (ch : Byte)
  | setChannelId (ch : Byte) (devNumber : Half) (devType : BitVec 7) (transType : Byte)
  | setRfFreq (ch freq : Byte)
  | setPeriod (ch : Byte) (period : Half)
  | setPairing (ch : Byte) (bit : Bool)
  | openCh (ch : Byte)
  | closeCh (ch : Byte)
  | sendBroadcast (ch : Byte) (data : Payload)
  | sendAck (ch : Byte) (data : Payload)
  | sendBurst (ch : Byte) (seq : BitVec 3) (data : Payload)
  | request (ch reqId : Byte)
  | getChannel (ch : Byte)
  | getEngine
  -- rows of format SERVICE_OP
  | rxPoll
  | rxStep
  | tick
  -- rows of format CODEC_OP
  | encodeOp (id : Byte) (content : List Byte)
  | decodeOp (buf : List Byte)
  deriving DecidableEq, Repr

end Sys2Proof
end

