-- ==== Sys2Proof/WellFormed.lean ====
section
/-! DEFINITION. What makes a configuration, a message and an instruction well formed: the constraints of R6, the field
widths of R103, R105 and R106, and the operand ranges of R352 (b). -/

namespace Sys2Proof

/-- The constraints of R6 but for the bound on `RXBUF_CAP`. That `MAX_RETRIES` is at most 255 is its width. -/
def Config.parametersLegal (cfg : Config) : Bool :=
  decide (cfg.lenBias ≤ 1) && decide (cfg.maxContent ≤ 255 - cfg.lenBias)
    && decide (1 ≤ cfg.nCh) && decide (cfg.nCh ≤ 2 ^ cfg.burstChBits) && decide (cfg.nCh ≤ 256)
    && decide (1 ≤ cfg.ackTimeout.toNat) && decide cfg.ids.Nodup && decide cfg.eventCodes.Nodup

/-- The largest frame any `LEN` byte can declare, in bytes (R66, R144). -/
def Config.largestFrame (cfg : Config) : Nat := 255 - cfg.lenBias + 4

/-- The constraints of R6, all of them: `RXBUF_CAP` is at least twice the largest declarable frame. The default
`RXBUF_CAP = 512` of the same rule misses its bound of 516 (assumption 8). -/
def Config.meetsR6 (cfg : Config) : Bool := cfg.parametersLegal && decide (2 * cfg.largestFrame ≤ cfg.rxbufCap)

/-- What the model's claims ask of a configuration: R6's constraints with the buffer holding the largest declarable
frame once, which is all that R66 uses and which the defaults of R6 meet (assumption 8), and the two the model adds for
the two bit positions (assumption 6). With those two, every configuration that meets R6 is one (`Config.wf_of_meetsR6`). -/
def Config.wf (cfg : Config) : Bool :=
  cfg.parametersLegal && decide (cfg.largestFrame ≤ cfg.rxbufCap)
    && decide (cfg.pairingBitPos ≤ 7) && decide (cfg.burstChBits ≤ 8)

/-- A content that one `LEN` byte can declare: `C + LEN_BIAS ≤ 255` (R94, R96). -/
def Config.contentFits (cfg : Config) (content : List Byte) : Bool :=
  decide (content.length + cfg.lenBias ≤ 255)

/-- A device type that leaves the pairing bit clear; at `PAIRING_BIT_POS = 7`, `0..127` (R106). -/
def Config.devTypeFits (cfg : Config) (devType : Byte) : Bool := !devType.getLsbD cfg.pairingBitPos

/-- A burst sequence field that fits above the channel bits; at `BURST_CH_BITS = 5`, `0..7` (R105). -/
def Config.seqFits (cfg : Config) (seq : Byte) : Bool := decide (seq.toNat < 2 ^ (8 - cfg.burstChBits))

/-- The operand range of `ENGINE_OPEN` (R280, R352 (b)), for the values it latches. -/
def Config.openRange (cfg : Config) (n : BitVec 9) (ackTimeout : Time) : Bool :=
  decide (1 ≤ n.toNat) && decide (n.toNat ≤ 2 ^ cfg.burstChBits) && decide (1 ≤ ackTimeout.toNat)

/-- Every field within its width (R110): the records `Content` is defined on. -/
def Message.wellTyped (cfg : Config) : Message → Bool
  | .setChannelId _ _ devType _ _ => cfg.devTypeFits devType
  | .burstData chan seq _ => decide (chan.toNat < 2 ^ cfg.burstChBits) && cfg.seqFits seq
  | _ => true

/-- A `CHANNEL_EVENT` content that one of the four FRAME_EVENT rows refines (R104, R123). -/
def Config.isNamedEvent (cfg : Config) : List Byte → Bool
  | [_, _, code] => cfg.eventCodes.contains code
  | _ => false

/-- The instructions the encodings admit: a content fits its `LEN` byte, a named event or a known id is spelt by its own
row, and the operands of `ENGINE_OPEN` are in their ranges. -/
def Instr.wellFormed (cfg : Config) : Instr → Bool
  | .msgChannelEvent content => cfg.contentFits content && !cfg.isNamedEvent content
  | .msgUnassignChannel content => cfg.contentFits content
  | .msgAssignChannel content => cfg.contentFits content
  | .msgSetPeriod content => cfg.contentFits content
  | .msgSetRfFreq content => cfg.contentFits content
  | .msgOpenChannel content => cfg.contentFits content
  | .msgCloseChannel content => cfg.contentFits content
  | .msgRequestMessage content => cfg.contentFits content
  | .msgBroadcastData content => cfg.contentFits content
  | .msgAcknowledgedData content => cfg.contentFits content
  | .msgBurstData content => cfg.contentFits content
  | .msgSetChannelId content => cfg.contentFits content
  | .msgCapabilities content => cfg.contentFits content
  | .msgSerialNumber content => cfg.contentFits content
  | .msgStartup content => cfg.contentFits content
  | .msgUnrecognizedId id content => cfg.contentFits content && !cfg.ids.contains id
  | .evtRxSearchTimeout _ _ => true
  | .evtTransferTxCompleted _ _ => true
  | .evtTransferTxFailed _ _ => true
  | .evtRxFailGoToSearch _ _ => true
  | .engineOpen n ackTimeout _ => cfg.openRange n (ackTimeout.getD cfg.ackTimeout)
  | .engineClose => true
  | .assign _ _ _ => true
  | .unassign _ => true
  | .setChannelId _ _ _ _ => true
  | .setRfFreq _ _ => true
  | .setPeriod _ _ => true
  | .setPairing _ _ => true
  | .openCh _ => true
  | .closeCh _ => true
  | .sendBroadcast _ _ => true
  | .sendAck _ _ => true
  | .sendBurst _ _ _ => true
  | .request _ _ => true
  | .getChannel _ => true
  | .getEngine => true
  | .rxPoll => true
  | .rxStep => true
  | .tick => true
  | .encodeOp _ _ => true
  | .decodeOp _ => true

end Sys2Proof
end

