-- ==== Sys2Proof/Decode.lean ====
section
/-! DEFINITION. The frame codec (R131, R132, R135), the routing of a frame to its opcode-table row (R100, R104, R123),
the decoder of the operation words presented on the ports (R120; their operand layout is assumption 4), and after them
the encoder. Every decoder is total and rejects by name. -/

namespace Sys2Proof

/-! ### Arithmetic of the codec -/

/-- `XorFold`: the exclusive-or of all bytes (R8, R132). -/
def xorFold (bs : List Byte) : Byte := bs.foldl (fun acc b => acc ^^^ b) 0#8

/-- The little-endian value of a byte sequence (R62; operand words: assumption 4). -/
def leValue : List Byte → Nat
  | [] => 0
  | b :: bs => b.toNat + 256 * leValue bs

/-- The `k` low bytes of `n`, least significant first. -/
def leBytes : Nat → Nat → List Byte
  | 0, _ => []
  | k + 1, n => BitVec.ofNat 8 n :: leBytes k (n / 256)

/-- The 8 data bytes as a sequence, first on the wire first. -/
def Payload.bytes (p : Payload) : List Byte := [p.d0, p.d1, p.d2, p.d3, p.d4, p.d5, p.d6, p.d7]

/-- A payload from exactly 8 bytes. -/
def payloadOf? : List Byte → Option Payload
  | [d0, d1, d2, d3, d4, d5, d6, d7] => some ⟨d0, d1, d2, d3, d4, d5, d6, d7⟩
  | _ => none

/-! ### Message ids -/

/-- The kind an id selects; none for an unrecognized id (R100, R112). -/
def Config.kindOf? (cfg : Config) (id : Byte) : Option Kind := Kind.all.find? fun k => cfg.idOf k == id

/-- The content length `Parse` requires of a kind: column `C` of R100; none where any length is accepted. -/
def Kind.contentLength : Kind → Option Nat
  | .channelEvent => some 3
  | .unassignChannel => some 1
  | .assignChannel => some 3
  | .setPeriod => some 3
  | .setRfFreq => some 2
  | .openChannel => some 1
  | .closeChannel => some 1
  | .requestMessage => some 2
  | .broadcastData => some 9
  | .acknowledgedData => some 9
  | .burstData => some 9
  | .setChannelId => some 5
  | .capabilities => none
  | .serialNumber => none
  | .startup => none

/-- Channel-bearing: column `chan` of R100. -/
def Kind.bearsChannel (k : Kind) : Bool := k.contentLength.isSome

/-! ### ENCODE and DECODE of frames -/

/-- The frame of a raw message: sync, length, id, content, checksum (R90, R95). -/
def buildFrame (cfg : Config) (id : Byte) (content : List Byte) : Frame :=
  let body := [cfg.syncByte, BitVec.ofNat 8 (content.length + cfg.lenBias), id] ++ content
  body ++ [xorFold body]

/-- `Encode(id, content)` (R131): the id is tested first, then the length. -/
def encodeFrame (cfg : Config) (id : Byte) (content : List Byte) : Except EncodeError Frame :=
  if (cfg.kindOf? id).isNone then .error .unrecognizedId
  else if cfg.maxContent < content.length then .error .tooLong
  else .ok (buildFrame cfg id content)

/-- The least index of a sync byte, or the length if there is none (R135). -/
def syncIndex (cfg : Config) : List Byte → Nat
  | [] => 0
  | b :: bs => if b = cfg.syncByte then 0 else syncIndex cfg bs + 1

/-- `Decode(buf)` (R135). -/
def decodeFrame (cfg : Config) (buf : List Byte) : Verdict :=
  let s := syncIndex cfg buf
  let cand := buf.drop s
  match cand with
  | _ :: len :: rest =>
    if len.toNat < cfg.lenBias then .checksumError s
    else
      let c := len.toNat - cfg.lenBias
      if cand.length < c + 4 then .needMoreData s
      else if xorFold (cand.take (c + 3)) ≠ cand.getD (c + 3) 0#8 then .checksumError s
      else .frame (rest.headD 0#8) ((cand.drop 3).take c) (s + c + 4)
  | _ => .needMoreData s

/-! ### From a frame to its row of the opcode table -/

/-- The row of a `CHANNEL_EVENT` frame: one of the four FRAME_EVENT rows when its content has the three bytes of the
kind and its code is that row's, else the generic row (R104, R123). -/
def eventInstr (cfg : Config) (content : List Byte) : Instr :=
  match content with
  | [chan, initId, code] =>
    if code = cfg.evRxSearchTimeout then .evtRxSearchTimeout chan initId
    else if code = cfg.evTransferTxCompleted then .evtTransferTxCompleted chan initId
    else if code = cfg.evTransferTxFailed then .evtTransferTxFailed chan initId
    else if code = cfg.evRxFailGoToSearch then .evtRxFailGoToSearch chan initId
    else .msgChannelEvent content
  | _ => .msgChannelEvent content

/-- The row of the opcode table a decoded frame belongs to: total (R123, R219). -/
def frameInstr (cfg : Config) (id : Byte) (content : List Byte) : Instr :=
  match cfg.kindOf? id with
  | none => .msgUnrecognizedId id content
  | some .channelEvent => eventInstr cfg content
  | some .unassignChannel => .msgUnassignChannel content
  | some .assignChannel => .msgAssignChannel content
  | some .setPeriod => .msgSetPeriod content
  | some .setRfFreq => .msgSetRfFreq content
  | some .openChannel => .msgOpenChannel content
  | some .closeChannel => .msgCloseChannel content
  | some .requestMessage => .msgRequestMessage content
  | some .broadcastData => .msgBroadcastData content
  | some .acknowledgedData => .msgAcknowledgedData content
  | some .burstData => .msgBurstData content
  | some .setChannelId => .msgSetChannelId content
  | some .capabilities => .msgCapabilities content
  | some .serialNumber => .msgSerialNumber content
  | some .startup => .msgStartup content

/-- The instruction of one whole frame standing alone on the wire. -/
def decodeWire (cfg : Config) (bs : List Byte) : Except DecodeError Instr :=
  match decodeFrame cfg bs with
  | .frame id content consumed =>
    if consumed = content.length + 4 ∧ consumed = bs.length then .ok (frameInstr cfg id content) else .error .notAFrame
  | _ => .error .notAFrame

/-! ### Operation words of the ports: one opcode byte (R120), then the operands in the order of R120's table, each in
the least number of whole bytes, low byte first (assumption 4) -/

/-- An operation without operands. -/
def operands0 (i : Instr) : List Byte → Except DecodeError Instr
  | [] => .ok i
  | _ => .error .operandCount

/-- An operation with one byte operand. -/
def operands1 (f : Byte → Instr) : List Byte → Except DecodeError Instr
  | [a] => .ok (f a)
  | _ => .error .operandCount

/-- An operation with two byte operands. -/
def operands2 (f : Byte → Byte → Instr) : List Byte → Except DecodeError Instr
  | [a, b] => .ok (f a b)
  | _ => .error .operandCount

/-- An operation with three byte operands. -/
def operands3 (f : Byte → Byte → Byte → Instr) : List Byte → Except DecodeError Instr
  | [a, b, c] => .ok (f a b c)
  | _ => .error .operandCount

/-- `ch` and the 8 data bytes. -/
def operandsData (f : Byte → Payload → Instr) : List Byte → Except DecodeError Instr
  | ch :: data =>
    match payloadOf? data with
    | some p => .ok (f ch p)
    | none => .error .operandCount
  | [] => .error .operandCount

/-- The policy operands of `ENGINE_OPEN`, told apart by how many bytes there are: none, `max_retries`, `ack_timeout`, or
`ack_timeout` and `max_retries`; what the host does not pass takes its default (R23, assumption 4). -/
def policyOperands? : List Byte → Option (Option Time × Option Byte)
  | [] => some (none, none)
  | [r] => some (none, some r)
  | [t0, t1, t2, t3, t4, t5, t6, t7] => some (some (BitVec.ofNat 64 (leValue [t0, t1, t2, t3, t4, t5, t6, t7])), none)
  | [t0, t1, t2, t3, t4, t5, t6, t7, r] =>
    some (some (BitVec.ofNat 64 (leValue [t0, t1, t2, t3, t4, t5, t6, t7])), some r)
  | _ => none

/-- `n` (9 bits), then `ack_timeout` (64 bits) and `max_retries` (8 bits) where the host passes them. -/
def operandsEngineOpen : List Byte → Except DecodeError Instr
  | n0 :: n1 :: policy =>
    match policyOperands? policy with
    | none => .error .operandCount
    | some (ackTimeout, maxRetries) =>
      if leValue [n0, n1] < 2 ^ 9 then .ok (.engineOpen (BitVec.ofNat 9 (leValue [n0, n1])) ackTimeout maxRetries)
      else .error .operandWidth
  | _ => .error .operandCount

/-- `ch`, `dev_number` (16 bits), `dev_type` (7 bits), `trans_type`. -/
def operandsSetChannelId : List Byte → Except DecodeError Instr
  | [ch, n0, n1, ty, tt] =>
    if ty.toNat < 2 ^ 7 then .ok (.setChannelId ch (BitVec.ofNat 16 (leValue [n0, n1])) (ty.setWidth 7) tt)
    else .error .operandWidth
  | _ => .error .operandCount

/-- `ch`, `period` (16 bits). -/
def operandsSetPeriod : List Byte → Except DecodeError Instr
  | [ch, p0, p1] => .ok (.setPeriod ch (BitVec.ofNat 16 (leValue [p0, p1])))
  | _ => .error .operandCount

/-- `ch`, `bit` (1 bit). -/
def operandsSetPairing : List Byte → Except DecodeError Instr
  | [ch, b] => if b.toNat < 2 then .ok (.setPairing ch (b == 1#8)) else .error .operandWidth
  | _ => .error .operandCount

/-- `ch`, `seq` (3 bits), `data`. -/
def operandsSendBurst : List Byte → Except DecodeError Instr
  | ch :: seq :: data =>
    if 2 ^ 3 ≤ seq.toNat then .error .operandWidth
    else
      match payloadOf? data with
      | some p => .ok (.sendBurst ch (seq.setWidth 3) p)
      | none => .error .operandCount
  | _ => .error .operandCount

/-- `id`, then every remaining byte is content. -/
def operandsEncode : List Byte → Except DecodeError Instr
  | id :: content => .ok (.encodeOp id content)
  | [] => .error .operandCount

/-- The operation an opcode and its operand bytes name (R120); `0x15` to `0xFF` are unassigned. -/
def decodeOperation (op : Byte) (args : List Byte) : Except DecodeError Instr :=
  if op = 0x00#8 then operandsEngineOpen args
  else if op = 0x01#8 then operands0 .engineClose args
  else if op = 0x02#8 then operands3 .assign args
  else if op = 0x03#8 then operands1 .unassign args
  else if op = 0x04#8 then operandsSetChannelId args
  else if op = 0x05#8 then operands2 .setRfFreq args
  else if op = 0x06#8 then operandsSetPeriod args
  else if op = 0x07#8 then operandsSetPairing args
  else if op = 0x08#8 then operands1 .openCh args
  else if op = 0x09#8 then operands1 .closeCh args
  else if op = 0x0A#8 then operandsData .sendBroadcast args
  else if op = 0x0B#8 then operandsData .sendAck args
  else if op = 0x0C#8 then operandsSendBurst args
  else if op = 0x0D#8 then operands2 .request args
  else if op = 0x0E#8 then operands1 .getChannel args
  else if op = 0x0F#8 then operands0 .getEngine args
  else if op = 0x10#8 then operands0 .rxPoll args
  else if op = 0x11#8 then operands0 .rxStep args
  else if op = 0x12#8 then operands0 .tick args
  else if op = 0x13#8 then operandsEncode args
  else if op = 0x14#8 then .ok (.decodeOp args)
  else .error .unassignedOpcode

/-- The port an opcode is assigned on (R120). -/
def opcodePort? (op : Byte) : Option Port :=
  if op.toNat < 0x10 then some .host
  else if op.toNat < 0x13 then some .service
  else if op.toNat < 0x15 then some .codec
  else none

/-- The operation a word presented on a port names. -/
def decodePort (port : Port) (word : List Byte) : Except DecodeError Instr :=
  match word with
  | [] => .error .noOpcode
  | op :: args => if opcodePort? op = some port then decodeOperation op args else .error .unassignedOpcode

/-! ### The encoder -/

/-- Where an instruction's bytes stand: whole frames in the inbound stream, or words on a port. -/
inductive Space
  | wire
  | port (p : Port)
  deriving DecidableEq, Repr

/-- The space of an instruction (R120, R123). -/
def Instr.space : Instr → Space
  | .msgChannelEvent _ => .wire
  | .msgUnassignChannel _ => .wire
  | .msgAssignChannel _ => .wire
  | .msgSetPeriod _ => .wire
  | .msgSetRfFreq _ => .wire
  | .msgOpenChannel _ => .wire
  | .msgCloseChannel _ => .wire
  | .msgRequestMessage _ => .wire
  | .msgBroadcastData _ => .wire
  | .msgAcknowledgedData _ => .wire
  | .msgBurstData _ => .wire
  | .msgSetChannelId _ => .wire
  | .msgCapabilities _ => .wire
  | .msgSerialNumber _ => .wire
  | .msgStartup _ => .wire
  | .msgUnrecognizedId _ _ => .wire
  | .evtRxSearchTimeout _ _ => .wire
  | .evtTransferTxCompleted _ _ => .wire
  | .evtTransferTxFailed _ _ => .wire
  | .evtRxFailGoToSearch _ _ => .wire
  | .engineOpen _ _ _ => .port .host
  | .engineClose => .port .host
  | .assign _ _ _ => .port .host
  | .unassign _ => .port .host
  | .setChannelId _ _ _ _ => .port .host
  | .setRfFreq _ _ => .port .host
  | .setPeriod _ _ => .port .host
  | .setPairing _ _ => .port .host
  | .openCh _ => .port .host
  | .closeCh _ => .port .host
  | .sendBroadcast _ _ => .port .host
  | .sendAck _ _ => .port .host
  | .sendBurst _ _ _ => .port .host
  | .request _ _ => .port .host
  | .getChannel _ => .port .host
  | .getEngine => .port .host
  | .rxPoll => .port .service
  | .rxStep => .port .service
  | .tick => .port .service
  | .encodeOp _ _ => .port .codec
  | .decodeOp _ => .port .codec

/-- The bytes of an instruction: a whole frame for the frame rows, the operation word for the others. -/
def encode (cfg : Config) : Instr → List Byte
  | .msgChannelEvent content => buildFrame cfg cfg.idChannelEvent content
  | .msgUnassignChannel content => buildFrame cfg cfg.idUnassignChannel content
  | .msgAssignChannel content => buildFrame cfg cfg.idAssignChannel content
  | .msgSetPeriod content => buildFrame cfg cfg.idSetPeriod content
  | .msgSetRfFreq content => buildFrame cfg cfg.idSetRfFreq content
  | .msgOpenChannel content => buildFrame cfg cfg.idOpenChannel content
  | .msgCloseChannel content => buildFrame cfg cfg.idCloseChannel content
  | .msgRequestMessage content => buildFrame cfg cfg.idRequestMessage content
  | .msgBroadcastData content => buildFrame cfg cfg.idBroadcastData content
  | .msgAcknowledgedData content => buildFrame cfg cfg.idAcknowledgedData content
  | .msgBurstData content => buildFrame cfg cfg.idBurstData content
  | .msgSetChannelId content => buildFrame cfg cfg.idSetChannelId content
  | .msgCapabilities content => buildFrame cfg cfg.idCapabilities content
  | .msgSerialNumber content => buildFrame cfg cfg.idSerialNumber content
  | .msgStartup content => buildFrame cfg cfg.idStartup content
  | .msgUnrecognizedId id content => buildFrame cfg id content
  | .evtRxSearchTimeout chan initId => buildFrame cfg cfg.idChannelEvent [chan, initId, cfg.evRxSearchTimeout]
  | .evtTransferTxCompleted chan initId => buildFrame cfg cfg.idChannelEvent [chan, initId, cfg.evTransferTxCompleted]
  | .evtTransferTxFailed chan initId => buildFrame cfg cfg.idChannelEvent [chan, initId, cfg.evTransferTxFailed]
  | .evtRxFailGoToSearch chan initId => buildFrame cfg cfg.idChannelEvent [chan, initId, cfg.evRxFailGoToSearch]
  | .engineOpen n ackTimeout maxRetries =>
    0x00#8 :: (leBytes 2 n.toNat ++ ((ackTimeout.map fun t => leBytes 8 t.toNat).getD [] ++ maxRetries.toList))
  | .engineClose => [0x01#8]
  | .assign ch chanType network => [0x02#8, ch, chanType, network]
  | .unassign ch => [0x03#8, ch]
  | .setChannelId ch devNumber devType transType =>
    0x04#8 :: ch :: (leBytes 2 devNumber.toNat ++ [devType.setWidth 8, transType])
  | .setRfFreq ch freq => [0x05#8, ch, freq]
  | .setPeriod ch period => 0x06#8 :: ch :: leBytes 2 period.toNat
  | .setPairing ch bit => [0x07#8, ch, if bit then 1#8 else 0#8]
  | .openCh ch => [0x08#8, ch]
  | .closeCh ch => [0x09#8, ch]
  | .sendBroadcast ch data => 0x0A#8 :: ch :: data.bytes
  | .sendAck ch data => 0x0B#8 :: ch :: data.bytes
  | .sendBurst ch seq data => 0x0C#8 :: ch :: seq.setWidth 8 :: data.bytes
  | .request ch reqId => [0x0D#8, ch, reqId]
  | .getChannel ch => [0x0E#8, ch]
  | .getEngine => [0x0F#8]
  | .rxPoll => [0x10#8]
  | .rxStep => [0x11#8]
  | .tick => [0x12#8]
  | .encodeOp id content => 0x13#8 :: id :: content
  | .decodeOp buf => 0x14#8 :: buf

/-- The decoder of a space. -/
def decode (cfg : Config) (space : Space) (bs : List Byte) : Except DecodeError Instr :=
  match space with
  | .wire => decodeWire cfg bs
  | .port p => decodePort p bs

/-! ### Words as spec/opcode_table.json numbers them (R123) -/

/-- The frame a row word stands for (R123: `SYNC` is its most significant byte, then `LEN`, `MSG_ID` and any further
bytes): the word's `LEN` is left out as the row's mask leaves it out, the content bytes the word does not reach are 0,
and `LEN` and `CHECKSUM` are those of the whole frame (assumption 5). -/
def tableFrame? (cfg : Config) (nbits w : Nat) : Option Frame :=
  if nbits < 24 then none
  else
    match (leBytes (nbits / 8) w).reverse with
    | sync :: _ :: id :: given =>
      if sync = cfg.syncByte then
        match (cfg.kindOf? id).bind Kind.contentLength with
        | some c => some (buildFrame cfg id ((given ++ List.replicate c 0#8).take c))
        | none => some (buildFrame cfg id given)
      else none
    | _ => none

/-- How many operand bytes the word of a table row has at least: `ENGINE_OPEN`'s with all its operands. -/
def operandBytes (op : Byte) : Nat :=
  if op = 0x00#8 then 11
  else if op = 0x02#8 then 3
  else if op = 0x04#8 then 5
  else if op = 0x05#8 ∨ op = 0x07#8 ∨ op = 0x0D#8 then 2
  else if op = 0x06#8 then 3
  else if op = 0x0A#8 ∨ op = 0x0B#8 then 9
  else if op = 0x0C#8 then 10
  else if op = 0x03#8 ∨ op = 0x08#8 ∨ op = 0x09#8 ∨ op = 0x0E#8 ∨ op = 0x13#8 then 1
  else 0

/-- The operation word a table word stands for: its bytes, the first the opcode, and operand bytes of zero above it. -/
def tableWord (nbits w : Nat) : List Byte :=
  let given := leBytes (nbits / 8) w
  given ++ List.replicate (operandBytes (given.headD 0#8) + 1 - given.length) 0#8

/-- The instruction the decoder reads from a word of the opcode table, at the default parameters. -/
def decodeTableWord (nbits w : Nat) : Option Instr :=
  match tableFrame? .default nbits w with
  | some f => (decodeWire .default f).toOption
  | none =>
    let word := tableWord nbits w
    (opcodePort? (word.headD 0#8)).bind fun p => (decodePort p word).toOption

end Sys2Proof
end

