-- ==== Sys2Proof/Machine/Operands.lean ====
section
/-! DEFINITION. The operand forms of the messages: how fields are assembled into content bytes and taken apart (R103, R105,
R106, R107), `Content` (R110) and `Parse` (R111). -/

namespace Sys2Proof.Machine

/-- `lo8(v)` (R7). -/
def lo8 (v : Half) : Byte := BitVec.ofNat 8 v.toNat

/-- `hi8(v)` (R7). -/
def hi8 (v : Half) : Byte := BitVec.ofNat 8 (v.toNat / 256)

/-- A 16-bit field from its two bytes, low byte first (R107). -/
def half (c1 c2 : Byte) : Half := BitVec.ofNat 16 (c1.toNat + 256 * c2.toNat)

/-- The pairing flag of a device-type byte (R106). -/
def pairingOf (cfg : Config) (c3 : Byte) : Bool := c3.getLsbD cfg.pairingBitPos

/-- The device type of a device-type byte: its other bits (R106). -/
def devTypeOf (cfg : Config) (c3 : Byte) : Byte := c3 &&& ~~~(1#8 <<< cfg.pairingBitPos)

/-- The device type that a content carries: the record's; where it overlaps the pairing bit (never at
`PAIRING_BIT_POS = 7`) a free value beside that bit (DESIGN CHOICE, assumption 19). -/
def sentDevType (cfg : Config) (pairing : Bool) (devType : Byte) : Byte :=
  if cfg.devTypeFits devType then devType else devTypeOf cfg (Config.unstatedDevType cfg pairing devType)

/-- The device-type byte: `(pairing << PAIRING_BIT_POS) | dev_type` (R106). -/
def typeByte (cfg : Config) (pairing : Bool) (devType : Byte) : Byte :=
  ((if pairing then 1#8 else 0#8) <<< cfg.pairingBitPos) ||| sentDevType cfg pairing devType

/-- The sequence field that a content carries: the record's; where it has no room above the channel bits (never at
`BURST_CH_BITS ≤ 5`) a free value of the field's width (DESIGN CHOICE, assumption 19). -/
def sentSeq (cfg : Config) (seq chan : Byte) : Byte :=
  if cfg.seqFits seq then seq else Config.unstatedSeq cfg seq chan <<< cfg.burstChBits >>> cfg.burstChBits

/-- A burst's first content byte: `seq << BURST_CH_BITS | chan` (R105). -/
def burstByte (cfg : Config) (seq chan : Byte) : Byte := (sentSeq cfg seq chan <<< cfg.burstChBits) ||| chan

/-- The channel of a burst's first content byte: its low bits (R105). -/
def burstChan (cfg : Config) (c0 : Byte) : Byte := BitVec.ofNat 8 (c0.toNat % 2 ^ cfg.burstChBits)

/-- The sequence field of a burst's first content byte (R105). -/
def burstSeq (cfg : Config) (c0 : Byte) : Byte := c0 >>> cfg.burstChBits

/-- The channel number a channel-bearing message carries in its first content byte (R105). -/
def chanOf (cfg : Config) (k : Kind) (c0 : Byte) : Byte :=
  match k with
  | .burstData => burstChan cfg c0
  | _ => c0

/-- The content bytes of a message (R103). -/
def contentOf (cfg : Config) : Message → List Byte
  | .assignChannel chan chanType network => [chan, chanType, network]
  | .unassignChannel chan => [chan]
  | .setChannelId chan devNumber devType pairing transType =>
    [chan, lo8 devNumber, hi8 devNumber, typeByte cfg pairing devType, transType]
  | .setRfFreq chan rfFreq => [chan, rfFreq]
  | .setPeriod chan period => [chan, lo8 period, hi8 period]
  | .openChannel chan => [chan]
  | .closeChannel chan => [chan]
  | .requestMessage chan reqId => [chan, reqId]
  | .broadcastData chan data => chan :: data.bytes
  | .acknowledgedData chan data => chan :: data.bytes
  | .burstData chan seq data => burstByte cfg seq chan :: data.bytes
  | .channelEvent chan initId code => [chan, initId, code]
  | .capabilities raw => raw
  | .serialNumber raw => raw
  | .startup raw => raw

/-- `Content(m)`: the raw pair of a message (R110). -/
def messageContent (cfg : Config) (m : Message) : Byte × List Byte := (cfg.idOf m.kind, contentOf cfg m)

/-- The message a content holds, its kind known; none when the length is not the kind's (R103, R111). -/
def parseContent? (cfg : Config) (k : Kind) (content : List Byte) : Option Message :=
  match k, content with
  | .assignChannel, [c0, c1, c2] => some (.assignChannel c0 c1 c2)
  | .unassignChannel, [c0] => some (.unassignChannel c0)
  | .setChannelId, [c0, c1, c2, c3, c4] =>
    some (.setChannelId c0 (half c1 c2) (devTypeOf cfg c3) (pairingOf cfg c3) c4)
  | .setRfFreq, [c0, c1] => some (.setRfFreq c0 c1)
  | .setPeriod, [c0, c1, c2] => some (.setPeriod c0 (half c1 c2))
  | .openChannel, [c0] => some (.openChannel c0)
  | .closeChannel, [c0] => some (.closeChannel c0)
  | .requestMessage, [c0, c1] => some (.requestMessage c0 c1)
  | .broadcastData, c0 :: data => (payloadOf? data).map (.broadcastData c0)
  | .acknowledgedData, c0 :: data => (payloadOf? data).map (.acknowledgedData c0)
  | .burstData, c0 :: data => (payloadOf? data).map (.burstData (burstChan cfg c0) (burstSeq cfg c0))
  | .channelEvent, [c0, c1, c2] => some (.channelEvent c0 c1 c2)
  | .capabilities, raw => some (.capabilities raw)
  | .serialNumber, raw => some (.serialNumber raw)
  | .startup, raw => some (.startup raw)
  | _, _ => none

/-- `Parse(id, content)` (R111). -/
def parse (cfg : Config) (id : Byte) (content : List Byte) : Parsed :=
  match cfg.kindOf? id with
  | none => .unknownId
  | some k =>
    match parseContent? cfg k content with
    | some m => .msg m
    | none => .malformed

/-- `EncodeMsg(m) = Encode(Content(m))` (R131). -/
def encodeMsg (cfg : Config) (m : Message) : Except EncodeError Frame :=
  encodeFrame cfg (messageContent cfg m).1 (messageContent cfg m).2

end Sys2Proof.Machine
end

