-- ==== Sys2Proof/Machine/State.lean ====
section
/-! DEFINITION. The state of the block (10_state R20 to R41) as plain data: the engine registers, the channel table, the
pending-acknowledgement table, the RX buffer and its cursor and the last sampled time; and the model's own fields, which
stand for what the spec places outside the block: the parameters, the environment's inputs and the output streams. -/

namespace Sys2Proof.Machine

/-! ### Enumerations of the state (R21, R26, R30) -/

/-- `eng` (R21). -/
inductive EngState
  | closed | opened
  deriving DecidableEq, Repr

/-- `ENG_CLOSED = 0`, `ENG_OPEN = 1` (R21). -/
def EngState.code : EngState → Nat
  | .closed => 0
  | .opened => 1

/-- `CH[c].state` (R26); the values 5 to 7 never occur (U14). -/
inductive ChState
  | unassigned | assigned | searching | tracking | closed
  deriving DecidableEq, Repr

/-- The encoding of `CH[c].state` (R26, D17). -/
def ChState.code : ChState → Nat
  | .unassigned => 0
  | .assigned => 1
  | .searching => 2
  | .tracking => 3
  | .closed => 4

/-- A channel is open when it searches or tracks (R13, R26). -/
def ChState.isOpen : ChState → Bool
  | .searching => true
  | .tracking => true
  | .unassigned => false
  | .assigned => false
  | .closed => false

/-- `PA[c].kind` (R30). -/
inductive SendKind
  | ack | burst
  deriving DecidableEq, Repr

/-- `0 = ACK`, `1 = BURST` (R30). -/
def SendKind.code : SendKind → Nat
  | .ack => 0
  | .burst => 1

/-! ### The two tables -/

/-- One slot of the channel table `CH` (R25 to R29). -/
structure Channel where
  state : ChState
  chanType : Byte
  network : Byte
  /-- `id_set`: the three device fields have been written since the slot was last `UNASSIGNED`. -/
  idSet : Bool
  devNumber : Half
  devType : BitVec 7
  transType : Byte
  rfSet : Bool
  rfFreq : Byte
  periodSet : Bool
  period : Half
  pairing : Bool
  xfault : Bool
  deriving DecidableEq, Repr

/-- One slot of the pending-acknowledgement table `PA` (R30); its channel is its index. -/
structure Pending where
  valid : Bool
  frame : Frame
  kind : SendKind
  sentAt : Time
  retries : Byte
  deriving DecidableEq, Repr

/-- A slot as device-open leaves it (R41); the fields the spec leaves without a value are 0 (assumption 2). -/
def Channel.fresh : Channel where
  state := .unassigned
  chanType := 0#8
  network := 0#8
  idSet := false
  devNumber := 0#16
  devType := 0#7
  transType := 0#8
  rfSet := false
  rfFreq := 0#8
  periodSet := false
  period := 0#16
  pairing := false
  xfault := false

/-- A pending slot as device-open leaves it (R41); the fields other than `valid` hold no value (assumption 2). -/
def Pending.fresh : Pending where
  valid := false
  frame := []
  kind := .ack
  sentAt := 0#64
  retries := 0#8

/-! ### The RX buffer, which the block has in place of a memory (R31, R60) -/

/-- The bytes delivered and not yet consumed, oldest first. -/
abbrev Memory := List Byte

/-- The buffer's form: never more than its capacity (R31, R66, invariant I4 of R40). -/
def Memory.wf (cap : Nat) (m : Memory) : Bool := decide (m.length ≤ cap)

/-! ### Notifications (R310) and results (R300) -/

/-- The data kind of `N_DATA` (R310). -/
inductive DataKind
  | broadcast | acknowledged | burst
  deriving DecidableEq, Repr

/-- `0 BROADCAST`, `1 ACKNOWLEDGED`, `2 BURST` (R310). -/
def DataKind.code : DataKind → Nat
  | .broadcast => 0
  | .acknowledged => 1
  | .burst => 2

/-- How a pending send was resolved (R252, R310). -/
inductive AckOutcome
  | success | failed | cancelled | transport
  deriving DecidableEq, Repr

/-- The encoding of an outcome (R310). -/
def AckOutcome.code : AckOutcome → Nat
  | .success => 0
  | .failed => 1
  | .cancelled => 2
  | .transport => 3

/-- The kinds of `N_WARNING` (R310). -/
inductive Warning
  | checksum (pos : Time)
  | unknownId (id : Byte)
  | unknownChannel (id c : Byte)
  | malformed (id : Byte) (c : Option Byte)
  | unexpected (id c : Byte)
  deriving DecidableEq, Repr

/-- The `kind` field of `N_WARNING` (R310). -/
def Warning.code : Warning → Nat
  | .checksum _ => 0
  | .unknownId _ => 1
  | .unknownChannel _ _ => 2
  | .malformed _ _ => 3
  | .unexpected _ _ => 4

/-- The notification records (R310). -/
inductive Notification
  | system (id : Byte) (content : List Byte)
  | deviceFound (c : Byte)
  | data (c : Byte) (kind : DataKind) (seq : Byte) (data : Payload)
  | channelEvent (c initId code : Byte)
  | ackResolved (c : Byte) (outcome : AckOutcome)
  | warning (w : Warning)
  | transportFail (c : Option Byte)
  deriving DecidableEq, Repr

/-- The tag of a notification (R310). -/
def Notification.tag : Notification → Nat
  | .system _ _ => 0x01
  | .deviceFound _ => 0x02
  | .data _ _ _ _ => 0x03
  | .channelEvent _ _ _ => 0x04
  | .ackResolved _ _ => 0x05
  | .warning _ => 0x06
  | .transportFail _ => 0x07

/-- The reasons of `DROPPED` (R309, R310). -/
inductive DropReason
  | unknownId | malformed | unexpected | closed
  deriving DecidableEq, Repr

/-- The numbers the warning kinds give the reasons; `5 W_CLOSED` has no notification (R310). -/
def DropReason.code : DropReason → Nat
  | .unknownId => 1
  | .malformed => 3
  | .unexpected => 4
  | .closed => 5

/-- What `GET_CHANNEL` returns (R285). -/
structure ChannelView where
  state : ChState
  chanType : Byte
  network : Byte
  idSet : Bool
  devNumber : Half
  devType : BitVec 7
  transType : Byte
  rfSet : Bool
  rfFreq : Byte
  periodSet : Bool
  period : Half
  pairing : Bool
  xfault : Bool
  pending : Bool
  deriving DecidableEq, Repr

/-- What `GET_ENGINE` returns (R286). -/
structure EngineView where
  eng : EngState
  nCh : BitVec 9
  ackTimeout : Time
  maxRetries : Byte
  xfault : Bool
  rxPos : Time
  rxLen : Nat
  deriving DecidableEq, Repr

/-- The value an `OK` carries. -/
inductive Value
  | none
  | handle (c : Byte)
  | count (n : Nat)
  | channel (v : ChannelView)
  | engine (v : EngineView)
  | frame (f : Frame)
  deriving DecidableEq, Repr

/-- The result port of an accepted operation: a code of R300 with its information (R36, R301 to R309). `decoded` is the
answer of the codec port's `DECODE`. -/
inductive Result
  | ok (v : Value)
  | needMoreData
  | dropped (reason : DropReason)
  | checksum (pos : Time)
  | encoding (reason : EncodeError)
  | unknownChannel (c : Byte)
  | invalidState (c : Byte) (state : ChState)
  | channelNotOpen (c : Byte) (state : ChState)
  | sendInProgress (c : Byte)
  | transport (c : Option Byte)
  | decoded (v : Verdict)
  deriving DecidableEq, Repr

/-- The result codes (R300). -/
inductive ResultCode
  | ok | needMoreData | dropped | eChecksum | eEncoding | eUnknownChannel | eInvalidState | eChannelNotOpen
  | eSendInProgress | eAckFailed | eTransport
  deriving DecidableEq, Repr

/-- The numbers of the result codes (R300). -/
def ResultCode.num : ResultCode → Nat
  | .ok => 0
  | .needMoreData => 1
  | .dropped => 2
  | .eChecksum => 3
  | .eEncoding => 4
  | .eUnknownChannel => 5
  | .eInvalidState => 6
  | .eChannelNotOpen => 7
  | .eSendInProgress => 8
  | .eAckFailed => 9
  | .eTransport => 10

/-- The code of a result (R300); `E_ACK_FAILED` is never one (R307). -/
def Result.code : Result → ResultCode
  | .ok _ => .ok
  | .needMoreData => .needMoreData
  | .dropped _ => .dropped
  | .checksum _ => .eChecksum
  | .encoding _ => .eEncoding
  | .unknownChannel _ => .eUnknownChannel
  | .invalidState _ _ => .eInvalidState
  | .channelNotOpen _ _ => .eChannelNotOpen
  | .sendInProgress _ => .eSendInProgress
  | .transport _ => .eTransport
  | .decoded (.needMoreData _) => .needMoreData
  | .decoded (.checksumError _) => .eChecksum
  | .decoded (.frame _ _ _) => .ok

/-- The result code an outcome stands for: `FAILED` carries the source's `AckFailedError`, code 9 (R300, R307). -/
def AckOutcome.resultCode? : AckOutcome → Option ResultCode
  | .success => none
  | .failed => some .eAckFailed
  | .cancelled => none
  | .transport => none

/-! ### Outputs and inputs -/

/-- One event on the block's outputs, in the order of the pseudocode: a `TxWrite` with the transport's answer (R34), a
`Notify` (R35), or a call of the transport's `open` or `close` (R280, R281). -/
inductive Output
  | tx (frame : Frame) (accepted : Bool)
  | note (n : Notification)
  | transportOpen (ok : Bool)
  | transportClose
  deriving DecidableEq, Repr

/-- The transport's answer to `read_available` (R284): a failure, or at most so many of the bytes it holds. -/
inductive ReadAnswer
  | failed
  | upTo (most : Nat)
  deriving DecidableEq, Repr

/-- The inputs sampled with one operation: the time (R33) and the transport's answers (R280, R283, R284). -/
structure Inputs where
  now : Time
  /-- The answers to this operation's `TxWrite` calls, in call order; calls beyond the list are accepted (R121). -/
  txAnswers : List Bool
  openOk : Bool
  read : ReadAnswer
  deriving DecidableEq, Repr

/-- One operation as the environment presents it: the port and word it is made of, the inputs sampled with it, and the
bytes that reached the transport from the radio since the operation before (R11, R320). -/
structure Presented where
  port : Port
  word : List Byte
  inputs : Inputs
  arrives : List Byte
  deriving DecidableEq, Repr

/-- The state of the machine. -/
structure State where
  /-- MODEL: the parameters of R6; no step changes them (assumption 1). -/
  cfg : Config
  /-- `eng` (R21). -/
  eng : EngState
  /-- `n_ch`, 9 bits (R22). -/
  nCh : BitVec 9
  /-- `ack_timeout`, 64 bits (R23). -/
  ackTimeout : Time
  /-- `max_retries`, 8 bits (R23). -/
  maxRetries : Byte
  /-- `xfault`, 1 bit, sticky (R24). -/
  xfault : Bool
  /-- `CH[0..n_ch-1]` (R25 to R29). -/
  ch : List Channel
  /-- `PA[0..n_ch-1]` (R30). -/
  pa : List Pending
  /-- `rxbuf` (R31). -/
  rxbuf : Memory
  /-- `rx_pos`, 64 bits (R32). -/
  rxPos : Time
  /-- `t_last`, 64 bits (R33). -/
  tLast : Time
  /-- MODEL: the inputs of the operation in progress (assumption 7). -/
  inp : Inputs
  /-- MODEL: the bytes the transport holds and has not returned yet (R37, R66). They are the transport's: closing and
  opening the engine leaves them there (DESIGN CHOICE, assumption 17). -/
  wire : List Byte
  /-- MODEL: the operations the environment presents, next first (assumption 7). -/
  queue : List Presented
  /-- MODEL: the output events so far, oldest first (R34, R35). -/
  out : List Output
  /-- MODEL: what the result port last showed (R36). -/
  result : Option Result
  /-- MODEL: the index of the next free value (assumption 3). -/
  freeIdx : Nat
  deriving DecidableEq, Repr

/-! ### How a step can stop -/

/-- Faults: there are none. Every error of the block ends one operation with a result code and leaves the engine running
(R323, R324), so no step of the machine stops in a fault. -/
inductive Fault
  deriving DecidableEq, Repr

/-- Refusals: the operation is not accepted, which is no step (R10 case (c)). All are safe: the spec gives the operation
no effect there. -/
inductive Refusal
  /-- An instruction without a meaning. No arm of `exec` raises it. Safe. -/
  | notModelled (mnemonic : String)
  /-- `step` with no operation presented: the environment has to present one (R120, R320). Safe. -/
  | noOperation
  /-- `step`, when the presented word is no operation of its port (R120, U10) or an operand exceeds its width
  (R352 (b)). Safe. -/
  | badOperation (e : DecodeError)
  /-- Any operation but `ENGINE_OPEN` while `eng = ENG_CLOSED` (R21, R352 (c)). Safe. -/
  | engineClosed
  /-- `ENGINE_OPEN` while `eng = ENG_OPEN` (R280, R352 (c)). Safe. -/
  | engineOpen
  /-- An operation whose `now` is below `t_last` (R33, R352 (a)). Safe. -/
  | timeBackwards
  /-- `ENGINE_OPEN` with `n` or `ack_timeout` out of its range (R280, R352 (b)). Safe. -/
  | operandRange
  deriving DecidableEq, Repr

/-- What an operation answers. -/
abbrev Answer := Host.Outcome State Fault Refusal

/-! ### Reset -/

/-- The inputs of an environment that presents time 0 and accepts everything. -/
def Inputs.idle : Inputs where
  now := 0#64
  txAnswers := []
  openOk := true
  read := .upTo 0

/-- Power-on: the engine is closed (R41, R341). Everything else is unspecified and unreachable; the model names zero and
empty (assumption 2). -/
def State.powerOn (cfg : Config) : State where
  cfg := cfg
  eng := .closed
  nCh := 0#9
  ackTimeout := 0#64
  maxRetries := 0#8
  xfault := false
  ch := []
  pa := []
  rxbuf := []
  rxPos := 0#64
  tLast := 0#64
  inp := .idle
  wire := []
  queue := []
  out := []
  result := none
  freeIdx := 0

/-- The machine right after reset: the block's reset is device-open (R5, R340), here with the channel count of the spec's
examples and the defaults the parameters give for the two policy values (`N_CH`, `ACK_TIMEOUT`, `MAX_RETRIES` of R6: 8,
50 and 3), at time 0 (R41, assumption 2). -/
def State.reset : State where
  cfg := .default
  eng := .opened
  nCh := BitVec.ofNat 9 Config.default.nCh
  ackTimeout := Config.default.ackTimeout
  maxRetries := Config.default.maxRetries
  xfault := false
  ch := List.replicate Config.default.nCh Channel.fresh
  pa := List.replicate Config.default.nCh Pending.fresh
  rxbuf := []
  rxPos := 0#64
  tLast := 0#64
  inp := .idle
  wire := []
  queue := []
  out := []
  result := none
  freeIdx := 0

end Sys2Proof.Machine
end

