-- ==== Sys2Proof/Machine/Ops.lean ====
section
/-! DEFINITION. The named operations over the state: the primitives of R8, the acceptance test of R10, the error result
that stands in place of taking an exception (R8 `raise`, R323) and the steps `Slot` and `Emit` every host operation
shares (R160). -/

namespace Sys2Proof.Machine

/-! ### Outputs -/

/-- `Notify(n)` (R8, R35). -/
def State.notify (s : State) (n : Notification) : State := { s with out := s.out ++ [.note n] }

/-- The transport's answer to the next `TxWrite` (R283); calls beyond the presented answers are accepted (R121). -/
def State.txAnswer (s : State) : Bool := s.inp.txAnswers.headD true

/-- `TxWrite(f)` (R8, R34): the frame goes out with the transport's answer, which is used up. -/
def State.txWrite (s : State) (f : Frame) : State :=
  { s with
    inp := { s.inp with txAnswers := s.inp.txAnswers.tail }
    out := s.out ++ [.tx f s.txAnswer] }

/-- `return v` (R8): the result port shows `OK` and the value (R36). -/
def State.ret (s : State) (v : Value) : State := { s with result := some (.ok v) }

/-- `raise E(info)` (R8, R323): the operation ends and the result port shows the error; nothing is saved and no control
goes anywhere. Statuses (`NEED_MORE_DATA`, `DROPPED`, R309) end an operation the same way. -/
def State.raise (s : State) (r : Result) : State := { s with result := some r }

/-! ### The tables -/

/-- `CH[c]`, for a channel number in range (R25, R115). -/
def State.slot? (s : State) (c : Byte) : Option Channel := if c.toNat < s.nCh.toNat then s.ch[c.toNat]? else none

/-- `CH[c] <- v`. -/
def State.setSlot (s : State) (c : Byte) (v : Channel) : State := { s with ch := s.ch.set c.toNat v }

/-- `PA[c]`, for a channel number in range (R30). -/
def State.pend? (s : State) (c : Byte) : Option Pending := if c.toNat < s.nCh.toNat then s.pa[c.toNat]? else none

/-- `PA[c] <- p`. -/
def State.setPend (s : State) (c : Byte) (p : Pending) : State := { s with pa := s.pa.set c.toNat p }

/-- The send in flight on channel `c`: `PA[c]` when its valid bit is 1 (R30). -/
def State.inFlight? (s : State) (c : Byte) : Option Pending := (s.pend? c).filter fun p => p.valid

/-- The channel numbers of the tables, ascending. -/
def State.channels (s : State) : List Byte := (List.range s.nCh.toNat).map fun c => BitVec.ofNat 8 c

/-! ### The RX buffer -/

/-- `RxDrop(n)` (R8): `n` bytes leave the head of `rxbuf` and `rx_pos` advances by `n` modulo `2^64` (R32). -/
def State.rxDrop (s : State) (n : Nat) : State :=
  { s with rxbuf := s.rxbuf.drop n, rxPos := s.rxPos + BitVec.ofNat 64 n }

/-- `RxAppend(bs)` (R8). -/
def State.rxAppend (s : State) (bs : List Byte) : State := { s with rxbuf := s.rxbuf ++ bs }

/-- The free space `RXBUF_CAP - |rxbuf|` (R66). -/
def State.rxFree (s : State) : Nat := s.cfg.rxbufCap - s.rxbuf.length

/-! ### Acceptance (R10 case (c), R33, R352) -/

/-- Every accepted operation ends with `t_last <- now` (R33, assumption 9); no rule reads `t_last` in between. -/
def State.sample (s : State) : State := { s with tLast := s.inp.now }

/-- An operation other than `ENGINE_OPEN` is accepted while the engine is open and time has not run backwards. -/
def accept (s : State) (k : State → State) : Answer :=
  match s.eng with
  | .closed => .refused .engineClosed
  | .opened => if s.inp.now.toNat < s.tLast.toNat then .refused .timeBackwards else .next (k s.sample)

/-- `ENGINE_OPEN` is accepted while the engine is closed (R280). -/
def acceptClosed (s : State) (k : State → State) : Answer :=
  match s.eng with
  | .opened => .refused .engineOpen
  | .closed => if s.inp.now.toNat < s.tLast.toNat then .refused .timeBackwards else .next (k s.sample)

/-- An operand out of its range is not accepted (R352 (b)): `ENGINE_OPEN`'s (R280), the only operands whose range is less
than their width. -/
def inRange (ok : Bool) (a : Answer) : Answer := if ok then a else .refused .operandRange

end Sys2Proof.Machine
end

