-- ==== Sys2Proof/Machine/Flags.lean ====
section
/-! DEFINITION. The block has no status flags and no condition codes (R38). Its only sticky bits are the two transport-fault
bits (R24, R29); this file holds the operation that sets them. -/

namespace Sys2Proof.Machine

/-- Sets the sticky fault bit of the channel a refused frame targeted, or of the engine (R24, R29, R283). -/
def State.setXfault (s : State) (target : Option Byte) : State :=
  match target with
  | none => { s with xfault := true }
  | some c =>
    match s.slot? c with
    | none => s
    | some v => s.setSlot c { v with xfault := true }

/-- What every transport failure does first: the sticky bit, then `N_TRANSPORT_FAIL` (R160, R246, R280, R282, R284, R308). -/
def State.transportFault (s : State) (target : Option Byte) : State :=
  (s.setXfault target).notify (.transportFail target)

end Sys2Proof.Machine
end

