-- ==== Sys2Proof/Machine/Emit.lean ====
section
/-! DEFINITION. The steps host operations share: `Slot` and `Emit` of R160 with the fixed order of checks (R321). -/

namespace Sys2Proof.Machine

/-- `Slot(ch)` (R160): a channel number that names no slot is answered `E_UNKNOWN_CHANNEL`; else the operation goes on
with `CH[ch]`. -/
def withSlot (s : State) (ch : Byte) (k : Channel → State) : State :=
  match s.slot? ch with
  | none => s.raise (.unknownChannel ch)
  | some v => k v

/-- The state check of a host operation: outside its source states, `E_INVALID_STATE` (R304). -/
def inState (s : State) (ch : Byte) (v : Channel) (sources : List ChState) (k : State) : State :=
  if v.state ∈ sources then k else s.raise (.invalidState ch v.state)

/-- `Emit` (R160; with `target = none`, the write of R282): encode, write, and on refusal the fault bit, the
notification and `E_TRANSPORT`; else the operation goes on with the frame. -/
def emit (s : State) (target : Option Byte) (m : Message) (k : State → Frame → State) : State :=
  match encodeMsg s.cfg m with
  | .error e => s.raise (.encoding e)
  | .ok f =>
    if s.txAnswer then k (s.txWrite f) f
    else ((s.txWrite f).transportFault target).raise (.transport target)

end Sys2Proof.Machine
end

