-- ==== Sys2Proof/Machine/Retry.lean ====
section
/-! DEFINITION. The acknowledged-send retry queue (43_ack_retry R240 to R249): submitting, resolving, retrying, cancelling,
and the operations `SEND_ACK`, `SEND_BURST` and `TICK`. -/

namespace Sys2Proof.Machine

/-- A pending send ceases: `PA[c].valid <- 0`, and its one `N_ACK_RESOLVED` (R244, R246, R247, R252). The other fields of
`PA[c]` hold no value from then on (R30); that their bits stay as they are is the model's choice (DESIGN CHOICE,
assumption 18). -/
def State.resolve (s : State) (c : Byte) (p : Pending) (outcome : AckOutcome) : State :=
  (s.setPend c { p with valid := false }).notify (.ackResolved c outcome)

/-- `CancelPending(c)` (R247). -/
def State.cancelPending (s : State) (c : Byte) : State :=
  match s.inFlight? c with
  | none => s
  | some p => s.resolve c p .cancelled

/-- `AckCompleted(c)` (R244). -/
def State.ackCompleted (s : State) (c : Byte) : State :=
  match s.inFlight? c with
  | none => s
  | some p => s.resolve c p .success

/-- `RetryOrFail(c)` (R246), for the send `p` in flight on `c`; the Boolean is false when the transport refused the
resend. -/
def State.retryOrFail (s : State) (c : Byte) (p : Pending) : State × Bool :=
  if p.retries.toNat < s.maxRetries.toNat then
    if s.txAnswer then
      ((s.txWrite p.frame).setPend c { p with retries := p.retries + 1#8, sentAt := s.inp.now }, true)
    else (((s.txWrite p.frame).transportFault (some c)).resolve c p .transport, false)
  else (s.resolve c p .failed, true)

/-- `AckFailed(c)` (R245), and what ends the step that handles the event: `E_TRANSPORT(c)` when the resend was refused,
else `OK`. -/
def State.ackFailed (s : State) (c : Byte) : State :=
  match s.inFlight? c with
  | none => s.ret .none
  | some p =>
    match s.retryOrFail c p with
    | (s', true) => s'.ret .none
    | (s', false) => s'.raise (.transport (some c))

/-- `Submit(ch, kind, m)` (R243): range, state, one in flight, encoding, write, in that order; the entry is recorded once
the first write is accepted. -/
def submit (s : State) (ch : Byte) (kind : SendKind) (m : Message) : State :=
  withSlot s ch fun v =>
    if v.state.isOpen then
      match s.inFlight? ch with
      | some _ => s.raise (.sendInProgress ch)
      | none =>
        emit s (some ch) m fun s f =>
          (s.setPend ch { valid := true, frame := f, kind := kind, sentAt := s.inp.now, retries := 0#8 }).ret (.handle ch)
    else s.raise (.channelNotOpen ch v.state)

/-- `SEND_ACK` (R241). -/
def execSendAck (ch : Byte) (data : Payload) (s : State) : Answer :=
  accept s fun s => submit s ch .ack (.acknowledgedData ch data)

/-- `SEND_BURST` (R242); what the frame carries of a sequence with no room above the channel bits is `sentSeq`'s. -/
def execSendBurst (ch : Byte) (seq : BitVec 3) (data : Payload) (s : State) : Answer :=
  accept s fun s => submit s ch .burst (.burstData ch (seq.setWidth 8) data)

/-- Due (R249): in flight, and at least `ack_timeout` time units since the latest write. -/
def State.isDue (s : State) (p : Pending) : Bool :=
  decide (s.ackTimeout.toNat ≤ s.inp.now.toNat - p.sentAt.toNat)

/-- One pass of `TICK`'s loop body (R248): the state and the lowest channel whose resend was refused so far. -/
def tickChannel (acc : State × Option Byte) (c : Byte) : State × Option Byte :=
  match acc.1.inFlight? c with
  | none => acc
  | some p =>
    if acc.1.isDue p then
      match acc.1.retryOrFail c p with
      | (s', true) => (s', acc.2)
      | (s', false) => (s', acc.2.or (some c))
    else acc

/-- `TICK` (R248): every due channel, ascending. -/
def execTick (s : State) : Answer :=
  accept s fun s =>
    match s.channels.foldl tickChannel (s, none) with
    | (s', none) => s'.ret .none
    | (s', some c) => s'.raise (.transport (some c))

end Sys2Proof.Machine
end

