-- ==== Sys2Proof/Machine/Channel.lean ====
section
/-! DEFINITION. The host operations on the channel state machine (41_channel_ops R161 to R169). -/

namespace Sys2Proof.Machine

/-- `ASSIGN` (R161): `UNASSIGNED → ASSIGNED`. -/
def execAssign (ch chanType network : Byte) (s : State) : Answer :=
  accept s fun s => withSlot s ch fun v => inState s ch v [.unassigned] <|
    emit s (some ch) (.assignChannel ch chanType network) fun s _ =>
      (s.setSlot ch { v with chanType := chanType, network := network, state := .assigned }).ret .none

/-- `SET_CHANNEL_ID` (R162), with the slot's pairing flag in the frame; the operands are stored as they are, whatever the
frame carries of a device type that overlaps the pairing bit (`sentDevType`). -/
def execSetChannelId (ch : Byte) (devNumber : Half) (devType : BitVec 7) (transType : Byte) (s : State) : Answer :=
  accept s fun s => withSlot s ch fun v => inState s ch v [.assigned] <|
    emit s (some ch) (.setChannelId ch devNumber (devType.setWidth 8) v.pairing transType) fun s _ =>
      (s.setSlot ch
        { v with devNumber := devNumber, devType := devType, transType := transType, idSet := true }).ret .none

/-- `SET_RF_FREQ` (R163). -/
def execSetRfFreq (ch freq : Byte) (s : State) : Answer :=
  accept s fun s => withSlot s ch fun v => inState s ch v [.assigned] <|
    emit s (some ch) (.setRfFreq ch freq) fun s _ =>
      (s.setSlot ch { v with rfFreq := freq, rfSet := true }).ret .none

/-- `SET_PERIOD` (R164). -/
def execSetPeriod (ch : Byte) (period : Half) (s : State) : Answer :=
  accept s fun s => withSlot s ch fun v => inState s ch v [.assigned] <|
    emit s (some ch) (.setPeriod ch period) fun s _ =>
      (s.setSlot ch { v with period := period, periodSet := true }).ret .none

/-- `SET_PAIRING` (R165): no frame. -/
def execSetPairing (ch : Byte) (bit : Bool) (s : State) : Answer :=
  accept s fun s => withSlot s ch fun v => inState s ch v [.unassigned, .assigned] <|
    (s.setSlot ch { v with pairing := bit }).ret .none

/-- `OPEN` (R166): `ASSIGNED → SEARCHING`. -/
def execOpen (ch : Byte) (s : State) : Answer :=
  accept s fun s => withSlot s ch fun v => inState s ch v [.assigned] <|
    emit s (some ch) (.openChannel ch) fun s _ =>
      (s.setSlot ch { v with state := .searching }).ret .none

/-- `CLOSE` (R167): to `CLOSED`, and the send in flight is cancelled. -/
def execClose (ch : Byte) (s : State) : Answer :=
  accept s fun s => withSlot s ch fun v => inState s ch v [.searching, .tracking] <|
    emit s (some ch) (.closeChannel ch) fun s _ =>
      ((s.setSlot ch { v with state := .closed }).cancelPending ch).ret .none

/-- `SEND_BROADCAST` (R168): no state is written. -/
def execSendBroadcast (ch : Byte) (data : Payload) (s : State) : Answer :=
  accept s fun s => withSlot s ch fun v => inState s ch v [.searching, .tracking] <|
    emit s (some ch) (.broadcastData ch data) fun s _ => s.ret .none

/-- `UNASSIGN` (R169): `CLOSED → UNASSIGNED`; the valid bits, the pairing flag and the fault bit are cleared. -/
def execUnassign (ch : Byte) (s : State) : Answer :=
  accept s fun s => withSlot s ch fun v => inState s ch v [.closed] <|
    emit s (some ch) (.unassignChannel ch) fun s _ =>
      (s.setSlot ch
        { v with
          state := .unassigned, idSet := false, rfSet := false, periodSet := false, pairing := false
          xfault := false }).ret .none

end Sys2Proof.Machine
end

