-- ==== Sys2Proof/Machine/Engine.lean ====
section
/-! DEFINITION. Engine lifecycle, request and status operations (44_system_ops R280 to R286) and the pure codec operations
on their port (R131, R135). -/

namespace Sys2Proof.Machine

/-- What device-open writes once the transport is open (R41, R280); fields without a value are 0 (assumption 2). Bytes
that the transport held before stay in it, and the new session reads them first (DESIGN CHOICE, assumption 17). -/
def State.deviceOpen (s : State) (n : BitVec 9) (ackTimeout : Time) (maxRetries : Byte) : State :=
  { s with
    eng := .opened
    nCh := n
    ackTimeout := ackTimeout
    maxRetries := maxRetries
    xfault := false
    ch := List.replicate n.toNat Channel.fresh
    pa := List.replicate n.toNat Pending.fresh
    rxbuf := []
    rxPos := 0#64 }

/-- `transport.open()`, with its answer (R280). -/
def State.openTransport (s : State) : State := { s with out := s.out ++ [.transportOpen s.inp.openOk] }

/-- `ENGINE_OPEN` with all its values given (R280). When the transport does not open, none of them is latched and the
engine stays closed; the failure sets the engine's fault bit and is notified, as every transport failure (R308,
assumption 11). -/
def openWith (n : BitVec 9) (ackTimeout : Time) (maxRetries : Byte) (s : State) : Answer :=
  inRange (s.cfg.openRange n ackTimeout) <|
  acceptClosed s fun s =>
    if s.inp.openOk then (s.openTransport.deviceOpen n ackTimeout maxRetries).ret .none
    else (s.openTransport.transportFault none).raise (.transport none)

/-- `ENGINE_OPEN` (R280): the operands, or the defaults `ACK_TIMEOUT` and `MAX_RETRIES` of R6 where the host passes none
(R23, R41). -/
def execEngineOpen (n : BitVec 9) (ackTimeout : Option Time) (maxRetries : Option Byte) (s : State) : Answer :=
  openWith n (ackTimeout.getD s.cfg.ackTimeout) (maxRetries.getD s.cfg.maxRetries) s

/-- What `ENGINE_CLOSE` does after the cancellations: empty the buffer, close the engine, close the transport (R281). What
becomes of bytes the transport still holds the spec does not say: they stay in `wire` (DESIGN CHOICE, assumption 17). -/
def State.engineStop (s : State) : State :=
  { s with rxbuf := [], eng := .closed, out := s.out ++ [.transportClose] }

/-- `ENGINE_CLOSE` (R281): every send in flight is cancelled, in ascending channel order. -/
def execEngineClose (s : State) : Answer :=
  accept s fun s => (s.channels.foldl State.cancelPending s).engineStop.ret .none

/-- `REQUEST` (R282): `ch` is a plain byte, no slot is looked up; a refused write sets the engine's fault bit. -/
def execRequest (ch reqId : Byte) (s : State) : Answer :=
  accept s fun s => emit s none (.requestMessage ch reqId) fun s _ => s.ret .none

/-- What `GET_CHANNEL` shows of a slot (R285): a field that holds no value shows unspecified bits, free values at index
`k` (assumption 3). -/
def viewChannel (k : Nat) (v : Channel) (pending : Bool) : ChannelView where
  state := v.state
  chanType := if v.state = .unassigned then Config.unspecifiedByte k 0 else v.chanType
  network := if v.state = .unassigned then Config.unspecifiedByte k 1 else v.network
  idSet := v.idSet
  devNumber := if v.idSet then v.devNumber else Config.unspecifiedHalf k 0
  devType := if v.idSet then v.devType else Config.unspecifiedSeven k
  transType := if v.idSet then v.transType else Config.unspecifiedByte k 2
  rfSet := v.rfSet
  rfFreq := if v.rfSet then v.rfFreq else Config.unspecifiedByte k 3
  periodSet := v.periodSet
  period := if v.periodSet then v.period else Config.unspecifiedHalf k 1
  pairing := v.pairing
  xfault := v.xfault
  pending := pending

/-- The next read of unspecified bits has an index of its own. -/
def State.useFree (s : State) : State := { s with freeIdx := s.freeIdx + 1 }

/-- `GET_CHANNEL` (R285). -/
def execGetChannel (ch : Byte) (s : State) : Answer :=
  accept s fun s => withSlot s ch fun v =>
    s.useFree.ret (.channel (viewChannel s.freeIdx v (s.inFlight? ch).isSome))

/-- `GET_ENGINE` (R286). -/
def execGetEngine (s : State) : Answer :=
  accept s fun s => s.ret (.engine
    { eng := s.eng, nCh := s.nCh, ackTimeout := s.ackTimeout, maxRetries := s.maxRetries, xfault := s.xfault
      rxPos := s.rxPos, rxLen := s.rxbuf.length })

/-- `ENCODE` on the codec port (R131): no state is read, and none written but the result port and the sampled time
(assumptions 9 and 10). -/
def execEncode (id : Byte) (content : List Byte) (s : State) : Answer :=
  accept s fun s =>
    match encodeFrame s.cfg id content with
    | .ok f => s.ret (.frame f)
    | .error e => s.raise (.encoding e)

/-- `DECODE` on the codec port (R135): pure (assumptions 9 and 10). -/
def execDecode (buf : List Byte) (s : State) : Answer :=
  accept s fun s => s.raise (.decoded (decodeFrame s.cfg buf))

end Sys2Proof.Machine
end

