-- ==== Sys2Proof/Machine/Inbound.lean ====
section
/-! DEFINITION. The dispatcher and the inbound transitions of a channel (42_dispatcher R199 to R217): the meaning of every
frame row of the opcode table. `RX_STEP` calls these after it has consumed the frame (R140). -/

namespace Sys2Proof.Machine

/-- A status of `RX_STEP`: the frame was good and the engine ignores the message (R309). -/
def State.drop (s : State) (reason : DropReason) : State := s.raise (.dropped reason)

/-- The rejections of the dispatcher that warn (R201, R203, R205, R212, R216). -/
def State.warn (s : State) (w : Warning) : State := s.notify (.warning w)

/-- `Dispatch` for the channel-bearing kinds (R200): channel byte present, channel known and not `UNASSIGNED` (R203), not
`CLOSED` (R204), content length (R205), in that order; then `HandleEvent`, given as `handle` with the channel number, its
slot and the message (R210). -/
def routeChannel (s : State) (k : Kind) (content : List Byte) (handle : Byte → Channel → Message → State) : State :=
  match content with
  | [] => (s.warn (.malformed (s.cfg.idOf k) none)).drop .malformed
  | c0 :: _ =>
    let c := chanOf s.cfg k c0
    match s.slot? c with
    | none => (s.warn (.unknownChannel (s.cfg.idOf k) c)).raise (.unknownChannel c)
    | some v =>
      match v.state with
      | .unassigned => (s.warn (.unknownChannel (s.cfg.idOf k) c)).raise (.unknownChannel c)
      | .closed => s.drop .closed
      | _ =>
        match parseContent? s.cfg k content with
        | none => (s.warn (.malformed (s.cfg.idOf k) (some c))).drop .malformed
        | some m => handle c v m

/-- A message the channel does not expect (R212 while `ASSIGNED`, R216). -/
def State.unexpected (s : State) (k : Kind) (c : Byte) : State :=
  (s.warn (.unexpected (s.cfg.idOf k) c)).drop .unexpected

/-- The kind and the `seq` and `data` fields of a data message; `seq` is 0 for broadcast and acknowledged data (R210). -/
def dataFields : Message → Option (DataKind × Byte × Payload)
  | .broadcastData _ data => some (.broadcast, 0#8, data)
  | .acknowledgedData _ data => some (.acknowledged, 0#8, data)
  | .burstData _ seq data => some (.burst, seq, data)
  | _ => none

/-- `HandleEvent` for a data message (R211, R212). -/
def handleData (s : State) (k : Kind) (c : Byte) (v : Channel) (m : Message) : State :=
  match dataFields m with
  | none => s.unexpected k c
  | some (kind, seq, data) =>
    match v.state with
    | .searching =>
      (((s.setSlot c { v with state := .tracking }).notify (.deviceFound c)).notify (.data c kind seq data)).ret .none
    | .tracking => (s.notify (.data c kind seq data)).ret .none
    | _ => s.unexpected k c

/-- `Dispatch` for the system kinds (R202). -/
def dispatchSystem (s : State) (k : Kind) (content : List Byte) : State :=
  (s.notify (.system (s.cfg.idOf k) content)).ret .none

/-- `Dispatch` for a channel event (R210): `N_CHANNEL_EVENT` always comes first, then what the code does, given as `act`. -/
def routeEvent (s : State) (content : List Byte) (act : State → Byte → Channel → State) : State :=
  routeChannel s .channelEvent content fun c v m =>
    match m with
    | .channelEvent _ initId code => act (s.notify (.channelEvent c initId code)) c v
    | _ => s.unexpected .channelEvent c

/-! ### The rows of format FRAME -/

/-- A channel event whose code is none of the four: forwarded, and nothing else (R113, R217). -/
def execMsgChannelEvent (content : List Byte) (s : State) : Answer :=
  accept s fun s => routeEvent s content fun s _ _ => s.ret .none

/-- An `UNASSIGN_CHANNEL` message from the device (R216). -/
def execMsgUnassignChannel (content : List Byte) (s : State) : Answer :=
  accept s fun s => routeChannel s .unassignChannel content fun c _ _ => s.unexpected .unassignChannel c

/-- An `ASSIGN_CHANNEL` message from the device (R216). -/
def execMsgAssignChannel (content : List Byte) (s : State) : Answer :=
  accept s fun s => routeChannel s .assignChannel content fun c _ _ => s.unexpected .assignChannel c

/-- A `SET_PERIOD` message from the device (R216). -/
def execMsgSetPeriod (content : List Byte) (s : State) : Answer :=
  accept s fun s => routeChannel s .setPeriod content fun c _ _ => s.unexpected .setPeriod c

/-- A `SET_RF_FREQ` message from the device (R216). -/
def execMsgSetRfFreq (content : List Byte) (s : State) : Answer :=
  accept s fun s => routeChannel s .setRfFreq content fun c _ _ => s.unexpected .setRfFreq c

/-- An `OPEN_CHANNEL` message from the device (R216). -/
def execMsgOpenChannel (content : List Byte) (s : State) : Answer :=
  accept s fun s => routeChannel s .openChannel content fun c _ _ => s.unexpected .openChannel c

/-- A `CLOSE_CHANNEL` message from the device (R216). -/
def execMsgCloseChannel (content : List Byte) (s : State) : Answer :=
  accept s fun s => routeChannel s .closeChannel content fun c _ _ => s.unexpected .closeChannel c

/-- A `REQUEST_MESSAGE` message from the device (R216). -/
def execMsgRequestMessage (content : List Byte) (s : State) : Answer :=
  accept s fun s => routeChannel s .requestMessage content fun c _ _ => s.unexpected .requestMessage c

/-- Broadcast data (R211, R212). -/
def execMsgBroadcastData (content : List Byte) (s : State) : Answer :=
  accept s fun s => routeChannel s .broadcastData content (handleData s .broadcastData)

/-- Acknowledged data (R211, R212). -/
def execMsgAcknowledgedData (content : List Byte) (s : State) : Answer :=
  accept s fun s => routeChannel s .acknowledgedData content (handleData s .acknowledgedData)

/-- Burst data, its channel in the low bits of the first content byte (R105, R211, R212). -/
def execMsgBurstData (content : List Byte) (s : State) : Answer :=
  accept s fun s => routeChannel s .burstData content (handleData s .burstData)

/-- A `SET_CHANNEL_ID` message from the device (R216). -/
def execMsgSetChannelId (content : List Byte) (s : State) : Answer :=
  accept s fun s => routeChannel s .setChannelId content fun c _ _ => s.unexpected .setChannelId c

/-- A capabilities response (R202). -/
def execMsgCapabilities (content : List Byte) (s : State) : Answer :=
  accept s fun s => dispatchSystem s .capabilities content

/-- A serial-number response (R202). -/
def execMsgSerialNumber (content : List Byte) (s : State) : Answer :=
  accept s fun s => dispatchSystem s .serialNumber content

/-- A startup message (R202). -/
def execMsgStartup (content : List Byte) (s : State) : Answer :=
  accept s fun s => dispatchSystem s .startup content

/-- A checksum-valid frame with an unrecognized id: consumed, reported, dropped (R112, R201). -/
def execMsgUnrecognizedId (id : Byte) (_content : List Byte) (s : State) : Answer :=
  accept s fun s => (s.warn (.unknownId id)).drop .unknownId

/-! ### The rows of format FRAME_EVENT -/

/-- `RX_SEARCH_TIMEOUT` (R213): while `SEARCHING`, to `CLOSED` and the send in flight is cancelled; else R217. -/
def execEvtRxSearchTimeout (chan initId : Byte) (s : State) : Answer :=
  accept s fun s => routeEvent s [chan, initId, s.cfg.evRxSearchTimeout] fun s c v =>
    match v.state with
    | .searching => ((s.setSlot c { v with state := .closed }).cancelPending c).ret .none
    | _ => s.ret .none

/-- `TRANSFER_TX_COMPLETED` (R215, R244). -/
def execEvtTransferTxCompleted (chan initId : Byte) (s : State) : Answer :=
  accept s fun s => routeEvent s [chan, initId, s.cfg.evTransferTxCompleted] fun s c _ => (s.ackCompleted c).ret .none

/-- `TRANSFER_TX_FAILED` (R215, R245). -/
def execEvtTransferTxFailed (chan initId : Byte) (s : State) : Answer :=
  accept s fun s => routeEvent s [chan, initId, s.cfg.evTransferTxFailed] fun s c _ => s.ackFailed c

/-- `RX_FAIL_GO_TO_SEARCH` (R214): while `TRACKING`, to `SEARCHING`; else R217. -/
def execEvtRxFailGoToSearch (chan initId : Byte) (s : State) : Answer :=
  accept s fun s => routeEvent s [chan, initId, s.cfg.evRxFailGoToSearch] fun s c v =>
    match v.state with
    | .tracking => (s.setSlot c { v with state := .searching }).ret .none
    | _ => s.ret .none

end Sys2Proof.Machine
end

