-- ==== Sys2Proof/Machine/Service.lean ====
section
/-! DEFINITION. The receiver's service operations: `RX_POLL` (R284) and `RX_STEP` (R140) with `Dispatch` (R200). -/

namespace Sys2Proof.Machine

/-- `RX_POLL` (R284): the bytes the transport returns, never more than the free space, go to the tail of `rxbuf`; the
others stay in the transport (R66). -/
def execRxPoll (s : State) : Answer :=
  accept s fun s =>
    match s.inp.read with
    | .failed => (s.transportFault none).raise (.transport none)
    | .upTo most =>
      let bs := s.wire.take (min most s.rxFree)
      ({ s with wire := s.wire.drop bs.length }.rxAppend bs).ret (.count bs.length)

/-- `Dispatch(id, content)` (R200): the frame goes to the meaning of the one row of the opcode table it belongs to. -/
def dispatch (id : Byte) (content : List Byte) (s : State) : Answer :=
  match s.cfg.kindOf? id with
  | none => execMsgUnrecognizedId id content s
  | some .channelEvent =>
    match eventInstr s.cfg content with
    | .evtRxSearchTimeout chan initId => execEvtRxSearchTimeout chan initId s
    | .evtTransferTxCompleted chan initId => execEvtTransferTxCompleted chan initId s
    | .evtTransferTxFailed chan initId => execEvtTransferTxFailed chan initId s
    | .evtRxFailGoToSearch chan initId => execEvtRxFailGoToSearch chan initId s
    | _ => execMsgChannelEvent content s
  | some .unassignChannel => execMsgUnassignChannel content s
  | some .assignChannel => execMsgAssignChannel content s
  | some .setPeriod => execMsgSetPeriod content s
  | some .setRfFreq => execMsgSetRfFreq content s
  | some .openChannel => execMsgOpenChannel content s
  | some .closeChannel => execMsgCloseChannel content s
  | some .requestMessage => execMsgRequestMessage content s
  | some .broadcastData => execMsgBroadcastData content s
  | some .acknowledgedData => execMsgAcknowledgedData content s
  | some .burstData => execMsgBurstData content s
  | some .setChannelId => execMsgSetChannelId content s
  | some .capabilities => execMsgCapabilities content s
  | some .serialNumber => execMsgSerialNumber content s
  | some .startup => execMsgStartup content s

/-- `RX_STEP` (R140): one `Decode` of the whole buffer; a frame is consumed, then dispatched. The acceptance test of the
step is `dispatch`'s own in the frame case: the meanings of the frame rows make it. -/
def execRxStep (s : State) : Answer :=
  match decodeFrame s.cfg s.rxbuf with
  | .needMoreData skip => accept s fun s => (s.rxDrop skip).raise .needMoreData
  | .checksumError skip =>
    accept s fun s =>
      let pos := s.rxPos + BitVec.ofNat 64 skip
      ((s.rxDrop (skip + 1)).notify (.warning (.checksum pos))).raise (.checksum pos)
  | .frame id content consumed => dispatch id content (s.rxDrop consumed)

end Sys2Proof.Machine
end

