-- ==== Sys2Proof/Machine/Dispatch.lean ====
section
/-! DEFINITION. One arm per row of the opcode table, each a direct call of its meaning. -/

namespace Sys2Proof.Machine

def exec (i : Instr) (s : State) : Host.Outcome State Fault Refusal :=
  match i with
  | .msgChannelEvent content => Sys2Proof.Machine.execMsgChannelEvent content s
  | .msgUnassignChannel content => Sys2Proof.Machine.execMsgUnassignChannel content s
  | .msgAssignChannel content => Sys2Proof.Machine.execMsgAssignChannel content s
  | .msgSetPeriod content => Sys2Proof.Machine.execMsgSetPeriod content s
  | .msgSetRfFreq content => Sys2Proof.Machine.execMsgSetRfFreq content s
  | .msgOpenChannel content => Sys2Proof.Machine.execMsgOpenChannel content s
  | .msgCloseChannel content => Sys2Proof.Machine.execMsgCloseChannel content s
  | .msgRequestMessage content => Sys2Proof.Machine.execMsgRequestMessage content s
  | .msgBroadcastData content => Sys2Proof.Machine.execMsgBroadcastData content s
  | .msgAcknowledgedData content => Sys2Proof.Machine.execMsgAcknowledgedData content s
  | .msgBurstData content => Sys2Proof.Machine.execMsgBurstData content s
  | .msgSetChannelId content => Sys2Proof.Machine.execMsgSetChannelId content s
  | .msgCapabilities content => Sys2Proof.Machine.execMsgCapabilities content s
  | .msgSerialNumber content => Sys2Proof.Machine.execMsgSerialNumber content s
  | .msgStartup content => Sys2Proof.Machine.execMsgStartup content s
  | .msgUnrecognizedId id content => Sys2Proof.Machine.execMsgUnrecognizedId id content s
  | .evtRxSearchTimeout chan initId => Sys2Proof.Machine.execEvtRxSearchTimeout chan initId s
  | .evtTransferTxCompleted chan initId => Sys2Proof.Machine.execEvtTransferTxCompleted chan initId s
  | .evtTransferTxFailed chan initId => Sys2Proof.Machine.execEvtTransferTxFailed chan initId s
  | .evtRxFailGoToSearch chan initId => Sys2Proof.Machine.execEvtRxFailGoToSearch chan initId s
  | .engineOpen n ackTimeout maxRetries => Sys2Proof.Machine.execEngineOpen n ackTimeout maxRetries s
  | .engineClose => Sys2Proof.Machine.execEngineClose s
  | .assign ch chanType network => Sys2Proof.Machine.execAssign ch chanType network s
  | .unassign ch => Sys2Proof.Machine.execUnassign ch s
  | .setChannelId ch devNumber devType transType => Sys2Proof.Machine.execSetChannelId ch devNumber devType transType s
  | .setRfFreq ch freq => Sys2Proof.Machine.execSetRfFreq ch freq s
  | .setPeriod ch period => Sys2Proof.Machine.execSetPeriod ch period s
  | .setPairing ch bit => Sys2Proof.Machine.execSetPairing ch bit s
  | .openCh ch => Sys2Proof.Machine.execOpen ch s
  | .closeCh ch => Sys2Proof.Machine.execClose ch s
  | .sendBroadcast ch data => Sys2Proof.Machine.execSendBroadcast ch data s
  | .sendAck ch data => Sys2Proof.Machine.execSendAck ch data s
  | .sendBurst ch seq data => Sys2Proof.Machine.execSendBurst ch seq data s
  | .request ch reqId => Sys2Proof.Machine.execRequest ch reqId s
  | .getChannel ch => Sys2Proof.Machine.execGetChannel ch s
  | .getEngine => Sys2Proof.Machine.execGetEngine s
  | .rxPoll => Sys2Proof.Machine.execRxPoll s
  | .rxStep => Sys2Proof.Machine.execRxStep s
  | .tick => Sys2Proof.Machine.execTick s
  | .encodeOp id content => Sys2Proof.Machine.execEncode id content s
  | .decodeOp buf => Sys2Proof.Machine.execDecode buf s

end Sys2Proof.Machine
end

