-- ==== Sys2Proof/Machine/Fetch.lean ====
section
/-! DEFINITION. What `step` calls: taking the next presented operation, and placing a word of the opcode table where the
next step takes it (assumptions 5 and 7). -/

namespace Sys2Proof.Machine

/-- The environment presents `p`: its inputs are sampled, its bytes reach the transport, and `rest` stays to come. -/
def State.present (s : State) (p : Presented) (rest : List Presented) : State :=
  { s with inp := p.inputs, wire := s.wire ++ p.arrives, queue := rest }

/-- The instruction a presented operation is. -/
def Presented.instr (p : Presented) : Except DecodeError Instr := decodePort p.port p.word

/-- The inputs of an environment that presents an operation at time `now` and accepts and returns everything. -/
def Inputs.accepting (now : Time) : Inputs where
  now := now
  txAnswers := []
  openOk := true
  read := .upTo (2 ^ 64)

/-- An operation word at time `now` on the port its opcode belongs to (an unassigned opcode stands on the host port). -/
def Presented.ofWord (now : Time) (word : List Byte) : Presented where
  port := (opcodePort? (word.headD 0#8)).getD .host
  word := word
  inputs := .accepting now
  arrives := []

/-- The state in which a word of the opcode table is what the next step takes: a frame row's frame stands at the head of
`rxbuf` and `RX_STEP` is presented; an operation's word is presented. -/
def State.placeWord (s : State) (nbits w : Nat) : State :=
  match tableFrame? s.cfg nbits w with
  | some f => { s with rxbuf := f ++ s.rxbuf, queue := .ofWord s.tLast [0x11#8] :: s.queue }
  | none => { s with queue := .ofWord s.tLast (tableWord nbits w) :: s.queue }

end Sys2Proof.Machine
end

