-- ==== Sys2Proof/Machine/Step.lean ====
section
/-! DEFINITION. One step: the arbiter admits the next operation the environment presents, and it runs as one indivisible
operation (R9, R320). -/

namespace Sys2Proof.Machine

/-- The next presented operation is taken and executed; with nothing presented there is no step. -/
def step (s : State) : Host.Outcome State Fault Refusal :=
  match s.queue with
  | [] => .refused .noOperation
  | p :: rest =>
    match p.instr with
    | .error e => .refused (.badOperation e)
    | .ok i => exec i (s.present p rest)

/-- The same instruction stored where `step` takes its next one (assumption 5). -/
def State.withFetchWord (s : State) (nbits w : Nat) : State := s.placeWord nbits w

end Sys2Proof.Machine
end

