-- ==== Sys2Proof/Machine/Programs.lean ====
section
/-! DEFINITION. The pseudo-operations of R122 as programs over `exec`: `RX`, `RXMSG`, `CAPREQ`, `LOOP`, `FLIP`. All the
operations of one program run with the inputs that stand in the state (R121: without `@t`, `now` is unchanged); the input
of `RX`'s poll is the bytes of its line. -/

namespace Sys2Proof.Machine

/-- Goes on after a next state. -/
def andThen (a : Answer) (k : State → Answer) : Answer :=
  match a with
  | .next s => k s
  | .fault r => .fault r
  | .refused r => .refused r

/-- `RX_STEP` repeated until one answers `NEED_MORE_DATA`, at most `fuel` times. -/
def rxSteps : Nat → State → Answer
  | 0, s => .next s
  | fuel + 1, s =>
    andThen (exec .rxStep s) fun s' => if s'.result = some .needMoreData then .next s' else rxSteps fuel s'

/-- `RX_STEP` until `NEED_MORE_DATA`: every other step consumes a byte, so one step more than the buffer has bytes is
enough (R141). -/
def drainRx (s : State) : Answer := rxSteps (s.rxbuf.length + 1) s

/-- The state in which the transport input of the next `RX_POLL` is `bytes`: the transport answers with these bytes, and
what it holds besides stays behind them. -/
def State.feed (bytes : List Byte) (s : State) : State :=
  { s with wire := bytes ++ s.wire, inp := { s.inp with read := .upTo bytes.length } }

/-- `RX <bytes>`: one `RX_POLL` whose transport input is the bytes, then the buffer is drained. -/
def rxProgram (bytes : List Byte) (s : State) : Answer := andThen (exec .rxPoll (s.feed bytes)) drainRx

/-- `RXMSG <message>`: `RX` of the message's frame. A message that `Encode` refuses has no frame and R122 gives it no
expansion: the model lets `ENCODE` answer, with its acceptance test and its sampled time, and receives nothing (DESIGN
CHOICE, assumption 20). -/
def rxMessage (m : Message) (s : State) : Answer :=
  match encodeMsg s.cfg m with
  | .ok f => rxProgram f s
  | .error _ => exec (.encodeOp (messageContent s.cfg m).1 (messageContent s.cfg m).2) s

/-- `CAPREQ`: the source's capabilities-request (R99, R122). -/
def capReq (cfg : Config) : Instr := .request 0x00#8 cfg.idCapabilities

/-- `LOOP`: one pass of the source's cooperative loop (R122, R320). -/
def loopPass (s : State) : Answer := andThen (andThen (exec .rxPoll s) drainRx) (exec .tick)

/-- `FLIP(frame, k, b)`: bit `b` of the byte at index `k` inverted. -/
def flipBit (f : Frame) (k b : Nat) : Frame := f.modify k fun x => x ^^^ (1#8 <<< b)

end Sys2Proof.Machine
end

