-- ==== Sys2Proof/Safety.lean ====
section
/-! DEFINITION. What claims are stated in: when an operation is accepted, the output streams, the invariants of R40, and
the transition list of R159. -/

namespace Sys2Proof.Machine

/-- The engine is open and time has not run backwards: every operation but `ENGINE_OPEN` is accepted (R10, R33, R352). -/
def State.Ready (s : State) : Prop := s.eng = .opened ∧ s.tLast.toNat ≤ s.inp.now.toNat

/-- The TX stream: the frames passed to `TxWrite`, in call order (R34). -/
def txStream (out : List Output) : List Frame :=
  out.filterMap fun e =>
    match e with
    | .tx f _ => some f
    | _ => none

/-- The notification stream, in order of emission (R35). -/
def noteStream (out : List Output) : List Notification :=
  out.filterMap fun e =>
    match e with
    | .note n => some n
    | _ => none

/-- The message of a pending send on channel `c`: acknowledged data or burst data for `c` (R40, invariant I3). -/
def IsSendOn (c : Byte) (kind : SendKind) (m : Message) : Prop :=
  match kind with
  | .ack => ∃ data, m = .acknowledgedData c data
  | .burst => ∃ seq data, m = .burstData c seq data

/-- Invariants I1, I2, I3 and I6 of R40, for the send `p` in flight on channel `c`. -/
def PendingInv (s : State) (c : Byte) (p : Pending) : Prop :=
  (∃ v, s.slot? c = some v ∧ v.state.isOpen = true)
    ∧ p.retries.toNat ≤ s.maxRetries.toNat
    ∧ (∃ id content m, decodeFrame s.cfg p.frame = .frame id content p.frame.length
        ∧ parse s.cfg id content = .msg m ∧ IsSendOn c p.kind m)
    ∧ p.sentAt.toNat ≤ s.tLast.toNat

/-- The invariants of R40 that speak of one state (of I5, the valid bits: the rest of I5 speaks of the slot's past and is
`UnassignedInv`), with what they rest on: a legal configuration, tables of `n_ch` slots, operands in range while
the engine is open, and no send in flight while it is closed (R281). -/
structure Invariants (s : State) : Prop where
  cfgWf : s.cfg.wf = true
  chLength : s.ch.length = s.nCh.toNat
  paLength : s.pa.length = s.nCh.toNat
  openRange : s.eng = .opened → s.cfg.openRange s.nCh s.ackTimeout = true
  bufferWf : Memory.wf s.cfg.rxbufCap s.rxbuf = true
  unassignedClear : ∀ c v, s.slot? c = some v → v.state = .unassigned →
    v.idSet = false ∧ v.rfSet = false ∧ v.periodSet = false
  pendingInv : ∀ c p, s.inFlight? c = some p → PendingInv s c p
  closedIdle : s.eng = .closed → ∀ c, s.inFlight? c = none

/-- What has happened to a slot since it last entered `UNASSIGNED`: the bit `SET_PAIRING` last wrote (false if none), and
whether the transport has refused an `ASSIGN` on it (R40, invariant I5). -/
structure Past where
  pairing : Bool
  refusedAssign : Bool
  deriving DecidableEq, Repr

/-- The past of a slot that has just entered `UNASSIGNED`. -/
def Past.fresh : Past where
  pairing := false
  refusedAssign := false

/-- The past of slot `c` after instruction `i` has ended in the state `t`. -/
def Past.after (c : Byte) (i : Instr) (t : State) (past : Past) : Past :=
  match i with
  | .engineOpen _ _ _ => if t.result = some (.ok .none) then .fresh else past
  | .unassign d => if d = c ∧ t.result = some (.ok .none) then .fresh else past
  | .setPairing d bit => if d = c ∧ t.result = some (.ok .none) then { past with pairing := bit } else past
  | .assign d _ _ => if d = c ∧ t.result = some (.transport (some c)) then { past with refusedAssign := true } else past
  | _ => past

/-- Invariant I5 of R40 whole, against the past of slot `c`: while `UNASSIGNED` its valid bits are 0, its pairing flag is
what `SET_PAIRING` last wrote, and its fault bit is 0 unless an `ASSIGN` was refused. -/
def UnassignedInv (s : State) (c : Byte) (past : Past) : Prop :=
  ∀ v, s.slot? c = some v → v.state = .unassigned →
    v.idSet = false ∧ v.rfSet = false ∧ v.periodSet = false
      ∧ v.pairing = past.pairing ∧ (past.refusedAssign = false → v.xfault = false)

/-- The transitions of the channel state machine (R159), with the instruction that causes each. -/
def Transition (c : Byte) (from_ to_ : ChState) (cfg : Config) (i : Instr) : Prop :=
  match from_, to_ with
  | .unassigned, .assigned => ∃ ty nw, i = .assign c ty nw
  | .assigned, .searching => i = .openCh c
  | .searching, .tracking =>
      (∃ data, i = .msgBroadcastData (c :: data)) ∨ (∃ data, i = .msgAcknowledgedData (c :: data))
        ∨ ∃ c0 data, i = .msgBurstData (c0 :: data) ∧ burstChan cfg c0 = c
  | .searching, .closed => i = .closeCh c ∨ ∃ initId, i = .evtRxSearchTimeout c initId
  | .tracking, .closed => i = .closeCh c
  | .tracking, .searching => ∃ initId, i = .evtRxFailGoToSearch c initId
  | .closed, .unassigned => i = .unassign c
  | _, _ => False

/-- The instruction a frame instruction stands for when `RX_STEP` runs it: the row of the frame at the head of `rxbuf`;
every other instruction stands for itself (R140, R145). -/
def State.running (s : State) (i : Instr) : Instr :=
  match i with
  | .rxStep =>
    match decodeFrame s.cfg s.rxbuf with
    | .frame id content _ => frameInstr s.cfg id content
    | _ => .rxStep
  | _ => i

end Sys2Proof.Machine
end

