-- ==== Sys2Proof/Certificates/Slice0/Obligations.lean ====
section
/-! DEFINITION. The statements for the provers, from the numbered rules of spec/. The vocabulary they share is spelt out
first, in `Sys2Proof.Claims`: what the rules call a frame, a slot, a refused write, the channel an instruction
addresses. Statements about `exec` carry the acceptance hypotheses of R10 and R352 as `State.Ready`. -/

open Sys2Proof Sys2Proof.Machine

/-! ### Vocabulary -/

/-- A frame, byte by byte (R90, R95). -/
def Sys2Proof.Claims.frameOf (cfg : Config) (id : Byte) (content : List Byte) : Frame :=
  cfg.syncByte :: BitVec.ofNat 8 (content.length + cfg.lenBias) :: id ::
    (content ++ [xorFold (cfg.syncByte :: BitVec.ofNat 8 (content.length + cfg.lenBias) :: id :: content)])

/-- `CH[c]`, `c < n_ch`. -/
def Sys2Proof.Claims.HasSlot (s : State) (c : Byte) (v : Channel) : Prop :=
  c.toNat < s.nCh.toNat ∧ s.ch[c.toNat]? = some v

/-- The state after an accepted operation that wrote nothing but its result: `t_last` is sampled (R33). -/
def Sys2Proof.Claims.answered (s : State) (r : Result) : State := { s with tLast := s.inp.now, result := some r }

/-- After one `TxWrite` of `f` that the transport answered `ok`. -/
def Sys2Proof.Claims.written (s : State) (f : Frame) (ok : Bool) : State :=
  { s with
    tLast := s.inp.now
    inp := { s.inp with txAnswers := s.inp.txAnswers.tail }
    out := s.out ++ [.tx f ok] }

/-- The host operands whose range R352 (b) bounds below their width: those of `ENGINE_OPEN`. -/
def Sys2Proof.Claims.operandsInRange (cfg : Config) (i : Instr) : Bool :=
  match i with
  | .engineOpen n ackTimeout _ => cfg.openRange n (ackTimeout.getD cfg.ackTimeout)
  | _ => true

/-- The port an operation is presented on and the opcode its word begins with (R120). -/
def Sys2Proof.Claims.Opcode (i : Instr) (p : Port) (op : Byte) : Prop :=
  i.space = .port p ∧ ∀ cfg, (encode cfg i).head? = some op

/-- What one host operation on a channel does (R160, R170, R171): range, state, encoding and write in that order; a
refused write changes the fault bit alone; an accepted one is followed by `post`. -/
def Sys2Proof.Claims.ChannelOpRule (i : Instr) (op : Byte) (ch : Byte) (sources : List ChState) (kind : Kind)
    (content : State → Channel → List Byte) (post : State → Channel → State) : Prop :=
  Claims.Opcode i .host op ∧ ∀ s : State, s.Ready →
    (s.nCh.toNat ≤ ch.toNat → exec i s = .next (Claims.answered s (.unknownChannel ch)))
    ∧ ∀ v, Claims.HasSlot s ch v →
      (v.state ∉ sources → exec i s = .next (Claims.answered s (.invalidState ch v.state)))
      ∧ (v.state ∈ sources → s.cfg.maxContent < (content s v).length →
          exec i s = .next (Claims.answered s (.encoding .tooLong)))
      ∧ (v.state ∈ sources → (content s v).length ≤ s.cfg.maxContent → s.txAnswer = false →
          exec i s = .next
            { Claims.written s (Claims.frameOf s.cfg (s.cfg.idOf kind) (content s v)) false with
              ch := s.ch.set ch.toNat { v with xfault := true }
              out := s.out ++ [.tx (Claims.frameOf s.cfg (s.cfg.idOf kind) (content s v)) false,
                .note (.transportFail (some ch))]
              result := some (.transport (some ch)) })
      ∧ (v.state ∈ sources → (content s v).length ≤ s.cfg.maxContent → s.txAnswer = true →
          exec i s = .next
            (post (Claims.written s (Claims.frameOf s.cfg (s.cfg.idOf kind) (content s v)) true) v))

/-- The send in flight on `c`, cancelled if there is one (R247). Here and below the bits that a pending slot keeps when it
ceases are the model's choice (assumption 18: R30 says that they hold no value). -/
def Sys2Proof.Claims.cancelled (s : State) (c : Byte) : State :=
  match s.inFlight? c with
  | none => s
  | some p =>
    { s with pa := s.pa.set c.toNat { p with valid := false }, out := s.out ++ [.note (.ackResolved c .cancelled)] }

/-- The kind and content of a frame instruction of a channel-bearing kind. -/
def Sys2Proof.Claims.inbound? (cfg : Config) : Instr → Option (Kind × List Byte)
  | .msgChannelEvent content => some (.channelEvent, content)
  | .msgUnassignChannel content => some (.unassignChannel, content)
  | .msgAssignChannel content => some (.assignChannel, content)
  | .msgSetPeriod content => some (.setPeriod, content)
  | .msgSetRfFreq content => some (.setRfFreq, content)
  | .msgOpenChannel content => some (.openChannel, content)
  | .msgCloseChannel content => some (.closeChannel, content)
  | .msgRequestMessage content => some (.requestMessage, content)
  | .msgBroadcastData content => some (.broadcastData, content)
  | .msgAcknowledgedData content => some (.acknowledgedData, content)
  | .msgBurstData content => some (.burstData, content)
  | .msgSetChannelId content => some (.setChannelId, content)
  | .evtRxSearchTimeout chan initId => some (.channelEvent, [chan, initId, cfg.evRxSearchTimeout])
  | .evtTransferTxCompleted chan initId => some (.channelEvent, [chan, initId, cfg.evTransferTxCompleted])
  | .evtTransferTxFailed chan initId => some (.channelEvent, [chan, initId, cfg.evTransferTxFailed])
  | .evtRxFailGoToSearch chan initId => some (.channelEvent, [chan, initId, cfg.evRxFailGoToSearch])
  | _ => none

/-- The frame instructions: the handling of one inbound frame. -/
def Sys2Proof.Claims.isFrame (i : Instr) : Bool := decide (i.space = .wire)

/-- The channel number an instruction addresses: the operand of a host operation but `REQUEST` (R282), the channel of a
channel-bearing message (R105). -/
def Sys2Proof.Claims.addressed? (cfg : Config) (i : Instr) : Option Byte :=
  match i with
  | .assign ch _ _ => some ch
  | .unassign ch => some ch
  | .setChannelId ch _ _ _ => some ch
  | .setRfFreq ch _ => some ch
  | .setPeriod ch _ => some ch
  | .setPairing ch _ => some ch
  | .openCh ch => some ch
  | .closeCh ch => some ch
  | .sendBroadcast ch _ => some ch
  | .sendAck ch _ => some ch
  | .sendBurst ch _ _ => some ch
  | .getChannel ch => some ch
  | i =>
    match Claims.inbound? cfg i with
    | some (k, c0 :: _) => some (chanOf cfg k c0)
    | _ => none

/-- The operations that serve the whole table (R248, R280, R281). -/
def Sys2Proof.Claims.servesAll (i : Instr) : Bool :=
  match i with
  | .engineOpen _ _ _ => true
  | .engineClose => true
  | .tick => true
  | _ => false

/-- `ENGINE_OPEN`. -/
def Sys2Proof.Claims.isEngineOpen (i : Instr) : Bool :=
  match i with
  | .engineOpen _ _ _ => true
  | _ => false

/-- A state with one slot of each table overwritten. -/
def Sys2Proof.Claims.overwrite (d : Byte) (v : Channel) (p : Pending) (s : State) : State :=
  { s with ch := s.ch.set d.toNat v, pa := s.pa.set d.toNat p }

/-- An answer with its next state changed. -/
def Sys2Proof.Claims.mapNext (f : State → State) : Answer → Answer
  | .next s => .next (f s)
  | .fault r => .fault r
  | .refused r => .refused r

/-- The outcomes with which sends on `c` were resolved among some output events. -/
def Sys2Proof.Claims.resolutions (c : Byte) (es : List Output) : List AckOutcome :=
  es.filterMap fun e =>
    match e with
    | .note (.ackResolved d o) => if d = c then some o else none
    | _ => none

/-- What one pass of `TICK` makes of a pending slot when the transport accepts every resend (R246, R248). -/
def Sys2Proof.Claims.served (s : State) (p : Pending) : Pending :=
  if p.valid = true ∧ s.ackTimeout.toNat ≤ s.inp.now.toNat - p.sentAt.toNat then
    if p.retries.toNat < s.maxRetries.toNat then { p with retries := p.retries + 1#8, sentAt := s.inp.now }
    else { p with valid := false }
  else p

/-- The outputs of that pass for the slot of channel `c`. -/
def Sys2Proof.Claims.serviceOutputs (s : State) (c : Nat) : List Output :=
  match s.pa[c]? with
  | none => []
  | some p =>
    if p.valid = true ∧ s.ackTimeout.toNat ≤ s.inp.now.toNat - p.sentAt.toNat then
      if p.retries.toNat < s.maxRetries.toNat then [.tx p.frame true]
      else [.note (.ackResolved (BitVec.ofNat 8 c) .failed)]
    else []

/-- One resend that the transport answered `ok`: the pending slot after it, and its outputs (R246). -/
def Sys2Proof.Claims.resent (s : State) (p : Pending) (ok : Bool) : Pending :=
  if ok then { p with retries := p.retries + 1#8, sentAt := s.inp.now } else { p with valid := false }

/-- The outputs of one resend (R246, R322). -/
def Sys2Proof.Claims.resendOutputs (c : Byte) (p : Pending) (ok : Bool) : List Output :=
  if ok then [.tx p.frame true]
  else [.tx p.frame false, .note (.transportFail (some c)), .note (.ackResolved c .transport)]

/-- The send on channel `c` that is due (R249). -/
def Sys2Proof.Claims.dueAt? (s : State) (c : Nat) : Option Pending :=
  if c < s.nCh.toNat then
    (s.pa[c]?).filter fun p => p.valid && decide (s.ackTimeout.toNat ≤ s.inp.now.toNat - p.sentAt.toNat)
  else none

/-- Channel `c` has a due send with retries left: `TICK` resends its frame. -/
def Sys2Proof.Claims.resendsAt (s : State) (c : Nat) : Bool :=
  (Claims.dueAt? s c).any fun p => decide (p.retries.toNat < s.maxRetries.toNat)

/-- The transport's answer to that resend: the answers are used in channel order, and beyond their end it accepts. -/
def Sys2Proof.Claims.answerAt (s : State) (c : Nat) : Bool :=
  (s.inp.txAnswers[(List.range c).countP (Claims.resendsAt s)]?).getD true

/-- The resend of channel `c` is refused. -/
def Sys2Proof.Claims.refusedAt (s : State) (c : Nat) : Bool := Claims.resendsAt s c && !Claims.answerAt s c

/-- The outputs of one `TICK` for channel `c`, whatever the transport answers. -/
def Sys2Proof.Claims.passOutputs (s : State) (c : Nat) : List Output :=
  match Claims.dueAt? s c with
  | none => []
  | some p =>
    if p.retries.toNat < s.maxRetries.toNat then
      Claims.resendOutputs (BitVec.ofNat 8 c) p (Claims.answerAt s c)
    else [.note (.ackResolved (BitVec.ofNat 8 c) .failed)]

/-- `TICK` at each of some times in turn, the transport accepting every write. -/
def Sys2Proof.Claims.tickRun : List Time → State → Answer
  | [], s => .next s
  | t :: ts, s =>
    andThen (exec .tick { s with inp := { s.inp with now := t, txAnswers := [] } }) (Sys2Proof.Claims.tickRun ts)

/-- Times each at least `gap` after the one before. -/
def Sys2Proof.Claims.Spaced (gap : Nat) : Nat → List Time → Prop
  | _, [] => True
  | last, t :: ts => last + gap ≤ t.toNat ∧ Sys2Proof.Claims.Spaced gap t.toNat ts

/-! ### The codec -/

/-- R132: the definition of the fold and its consequences (a) to (d). -/
def Obligations.XorFoldLaws : Prop :=
  xorFold [] = 0#8
  ∧ (∀ bs b, xorFold (bs ++ [b]) = xorFold bs ^^^ b)
  ∧ (∀ a b c : Byte, a ^^^ b ^^^ c = a ^^^ (b ^^^ c) ∧ a ^^^ b = b ^^^ a ∧ a ^^^ 0#8 = a ∧ a ^^^ a = 0#8)
  ∧ (∀ a b, xorFold (a ++ b) = xorFold a ^^^ xorFold b)
  ∧ (∀ cfg id content, xorFold (buildFrame cfg id content) = 0#8)
  ∧ (∀ bs k b, k < bs.length → b < 8 → xorFold (flipBit bs k b) = xorFold bs ^^^ (1#8 <<< b))
  ∧ (∀ bs k b, k < bs.length → b < 8 → xorFold (flipBit bs k b) ≠ xorFold bs)

/-- R131: `ENCODE` refuses an unrecognized id first and a long content second, and builds the frame otherwise; no message
a host operation builds is refused when `MAX_CONTENT ≥ 9`. The operation writes the result port and, which is the model's
reading of R33 (assumption 9: R131 and R42 say that no state is written), samples the time. -/
def Obligations.EncodeBuildsFrameOrRefuses : Prop :=
  (∀ id content, Claims.Opcode (.encodeOp id content) .codec 0x13#8)
  ∧ (∀ cfg id content, id ∉ cfg.ids → encodeFrame cfg id content = .error .unrecognizedId)
  ∧ (∀ cfg id content, id ∈ cfg.ids → cfg.maxContent < content.length → encodeFrame cfg id content = .error .tooLong)
  ∧ (∀ cfg id content, id ∈ cfg.ids → content.length ≤ cfg.maxContent →
      encodeFrame cfg id content = .ok (Claims.frameOf cfg id content))
  ∧ (∀ cfg m, 9 ≤ cfg.maxContent → m.kind.bearsChannel = true →
      encodeMsg cfg m = .ok (Claims.frameOf cfg (cfg.idOf m.kind) (contentOf cfg m)))
  ∧ ∀ s id content, s.Ready →
      (∀ f, encodeFrame s.cfg id content = .ok f →
        exec (.encodeOp id content) s = .next (Claims.answered s (.ok (.frame f))))
      ∧ ∀ e, encodeFrame s.cfg id content = .error e →
        exec (.encodeOp id content) s = .next (Claims.answered s (.encoding e))

/-- R136: purity, round trip, stability under appending, progress bound, and no frame missed at its own sync byte. That
the operation samples the time is the model's reading of R33 (assumption 9: R42 says it touches no state). -/
def Obligations.DecodeFindsFrames : Prop :=
  (∀ s buf, s.Ready → exec (.decodeOp buf) s = .next (Claims.answered s (.decoded (decodeFrame s.cfg buf))))
  ∧ (∀ cfg id content f, cfg.wf = true → encodeFrame cfg id content = .ok f →
      decodeFrame cfg f = .frame id content (content.length + 4))
  ∧ (∀ cfg m f, cfg.wf = true → m.wellTyped cfg = true → encodeMsg cfg m = .ok f →
      ∃ id content, decodeFrame cfg f = .frame id content f.length ∧ parse cfg id content = .msg m)
  ∧ (∀ cfg buf x id content n, decodeFrame cfg buf = .frame id content n →
      decodeFrame cfg (buf ++ x) = .frame id content n)
  ∧ (∀ cfg buf x n, decodeFrame cfg buf = .checksumError n → decodeFrame cfg (buf ++ x) = .checksumError n)
  ∧ (∀ cfg buf x n, decodeFrame cfg buf = .needMoreData n → n < buf.length →
      decodeFrame cfg (buf ++ x) = .needMoreData n ∨ decodeFrame cfg (buf ++ x) = .checksumError n
        ∨ ∃ id content, decodeFrame cfg (buf ++ x) = .frame id content (n + content.length + 4))
  ∧ (∀ cfg buf n, syncIndex cfg buf < buf.length → 255 - cfg.lenBias + 4 ≤ buf.length - syncIndex cfg buf →
      decodeFrame cfg buf ≠ .needMoreData n)
  ∧ (∀ cfg g id content x, cfg.syncByte ∉ g → content.length + cfg.lenBias ≤ 255 →
      decodeFrame cfg (g ++ Claims.frameOf cfg id content ++ x) =
        .frame id content (g.length + (Claims.frameOf cfg id content).length))

/-- R143: a flip of one bit in `MSG_ID`, content or `CHECKSUM` is a checksum error at that frame's own sync byte, whatever
follows; a flip in `SYNC` never is; a `LEN` below `LEN_BIAS` is. -/
def Obligations.SingleBitCorruptionDetected : Prop :=
  (∀ cfg id content x k b, content.length + cfg.lenBias ≤ 255 → 2 ≤ k → k < content.length + 4 → b < 8 →
    decodeFrame cfg (flipBit (Claims.frameOf cfg id content) k b ++ x) = .checksumError 0)
  ∧ (∀ cfg id content x b, content.length + cfg.lenBias ≤ 255 → b < 8 →
    decodeFrame cfg (flipBit (Claims.frameOf cfg id content) 0 b ++ x) ≠ .checksumError 0)
  ∧ ∀ cfg len x, len.toNat < cfg.lenBias → decodeFrame cfg (cfg.syncByte :: len :: x) = .checksumError 0

/-- R111: `Parse` is the inverse of `Content`, and answers `UnknownId` and `Malformed` exactly where the rule says. -/
def Obligations.ParseInvertsContent : Prop :=
  ∀ cfg : Config, cfg.wf = true →
    (∀ m : Message, m.wellTyped cfg = true →
      parse cfg (messageContent cfg m).1 (messageContent cfg m).2 = .msg m)
    ∧ (∀ id content m, parse cfg id content = .msg m → messageContent cfg m = (id, content))
    ∧ (∀ id content, parse cfg id content = .unknownId ↔ id ∉ cfg.ids)
    ∧ (∀ id content, parse cfg id content = .malformed ↔
        ∃ k n, cfg.idOf k = id ∧ k.contentLength = some n ∧ content.length ≠ n)

/-- R110: `Content` is injective on well-typed messages and its id is the kind's parameter. -/
def Obligations.ContentInjective : Prop :=
  ∀ cfg : Config, cfg.wf = true →
    (∀ m : Message, (messageContent cfg m).1 = cfg.idOf m.kind)
    ∧ ∀ m m' : Message, m.wellTyped cfg = true → m'.wellTyped cfg = true →
      messageContent cfg m = messageContent cfg m' → m = m'

/-- Every well-formed instruction is read back from its own bytes. The operand layout of the port words is the model's
choice (assumption 4). -/
def Obligations.DecodeEncodeAgree : Prop :=
  ∀ (cfg : Config) (i : Instr), cfg.wf = true → i.wellFormed cfg = true →
    decode cfg i.space (encode cfg i) = .ok i

/-- On the wire every instruction has one encoding: what decodes to an instruction is that instruction's encoding, and
only well-formed instructions are ever decoded. -/
def Obligations.WireDecodingUnambiguous : Prop :=
  ∀ (cfg : Config) (bs : List Byte) (i : Instr), cfg.wf = true → decodeWire cfg bs = .ok i →
    encode cfg i = bs ∧ i.wellFormed cfg = true ∧ i.space = .wire

/-- A few words written out from the spec's encodings (95_test_vectors 2.1, R120) decode to what they stand for. -/
def Obligations.SpecWordsDecode : Prop :=
  decodeWire .default [0xA4#8, 0x04#8, 0x42#8, 0x02#8, 0x00#8, 0x01#8, 0xE1#8]
    = .ok (.msgAssignChannel [0x02#8, 0x00#8, 0x01#8])
  ∧ decodeWire .default [0xA4#8, 0x04#8, 0x40#8, 0x00#8, 0x01#8, 0x06#8, 0xE7#8] = .ok (.evtTransferTxFailed 0#8 1#8)
  ∧ decodeWire .default [0xA4#8, 0x01#8, 0x6F#8, 0xCA#8] = .ok (.msgStartup [])
  ∧ decodePort .host [0x05#8, 0x00#8, 0x39#8] = .ok (.setRfFreq 0#8 57#8)
  ∧ decodePort .service [0x12#8] = .ok .tick
  ∧ decodePort .codec [0x13#8, 0x4B#8, 0x00#8] = .ok (.encodeOp 0x4B#8 [0x00#8])

/-! ### Steps -/

/-- One step runs the presented operation: its inputs are sampled, its bytes reach the transport, it leaves the queue, and
`exec` runs it; what is no operation of its port, or nothing presented, is no step. -/
def Obligations.StepRunsPresentedOperation : Prop :=
  (∀ s p rest i, s.queue = p :: rest → decodePort p.port p.word = .ok i →
    step s = exec i { s with inp := p.inputs, wire := s.wire ++ p.arrives, queue := rest })
  ∧ (∀ s p rest e, s.queue = p :: rest → decodePort p.port p.word = .error e → step s = .refused (.badOperation e))
  ∧ ∀ s : State, s.queue = [] → step s = .refused .noOperation

/-- R140: `RX_STEP` drops what its verdict allows, warns and reports on a checksum error, and runs the instruction of a
good frame after consuming the frame. -/
def Obligations.RxStepConsumesAndDispatches : Prop :=
  Claims.Opcode .rxStep .service 0x11#8
  ∧ (∀ s skip, s.Ready → decodeFrame s.cfg s.rxbuf = .needMoreData skip →
    exec .rxStep s = .next
      { Claims.answered s .needMoreData with
        rxbuf := s.rxbuf.drop skip, rxPos := s.rxPos + BitVec.ofNat 64 skip })
  ∧ (∀ s skip, s.Ready → decodeFrame s.cfg s.rxbuf = .checksumError skip →
    exec .rxStep s = .next
      { Claims.answered s (.checksum (s.rxPos + BitVec.ofNat 64 skip)) with
        rxbuf := s.rxbuf.drop (skip + 1), rxPos := s.rxPos + BitVec.ofNat 64 (skip + 1)
        out := s.out ++ [.note (.warning (.checksum (s.rxPos + BitVec.ofNat 64 skip)))] })
  ∧ ∀ s id content n, decodeFrame s.cfg s.rxbuf = .frame id content n →
    exec .rxStep s = exec (frameInstr s.cfg id content)
      { s with rxbuf := s.rxbuf.drop n, rxPos := s.rxPos + BitVec.ofNat 64 n }

/-- R141: what `RX_STEP` removes is a run without sync bytes, or such a run and one sync byte, or such a run and one whole
sequence that passes the checksum test; and `rx_pos` advances by as much. -/
def Obligations.RxStepRemovesOneOfThree : Prop :=
  ∀ s : State, s.Ready → ∃ t g r, exec .rxStep s = .next t ∧ s.rxbuf = g ++ r ++ t.rxbuf ∧ s.cfg.syncByte ∉ g
    ∧ t.rxPos = s.rxPos + BitVec.ofNat 64 (g.length + r.length)
    ∧ ((r = [] ∧ t.result = some .needMoreData)
      ∨ (r = [s.cfg.syncByte] ∧ ∃ pos, t.result = some (.checksum pos))
      ∨ ∃ id content, r = Claims.frameOf s.cfg id content ∧ content.length + s.cfg.lenBias ≤ 255)

/-- `RX_STEP` repeated until `NEED_MORE_DATA` (R122) ends within one step more than the buffer has bytes, in a buffer that
begins with a sync byte or is empty. -/
def Obligations.DrainReachesNeedMoreData : Prop :=
  ∀ s : State, s.Ready → ∃ t, drainRx s = .next t ∧ t.result = some .needMoreData
    ∧ t.rxbuf <:+ s.rxbuf ∧ (t.rxbuf = [] ∨ t.rxbuf.head? = some s.cfg.syncByte)

/-- R284: `RX_POLL` appends what the transport returns, at most the free space, or reports the failed read. -/
def Obligations.RxPollAppendsOrReports : Prop :=
  Claims.Opcode .rxPoll .service 0x10#8 ∧ ∀ s : State, s.Ready →
    (s.inp.read = .failed → exec .rxPoll s = .next
      { Claims.answered s (.transport none) with xfault := true, out := s.out ++ [.note (.transportFail none)] })
    ∧ ∀ most, s.inp.read = .upTo most →
      exec .rxPoll s = .next
        { Claims.answered s (.ok (.count (min (min most (s.cfg.rxbufCap - s.rxbuf.length)) s.wire.length))) with
          rxbuf := s.rxbuf ++ s.wire.take (min most (s.cfg.rxbufCap - s.rxbuf.length))
          wire := s.wire.drop (min most (s.cfg.rxbufCap - s.rxbuf.length)) }

/-- R122: `RX <bytes>` polls exactly its bytes, whatever the transport holds besides, and then drains the buffer. -/
def Obligations.RxProgramPollsItsBytes : Prop :=
  ∀ (s : State) (bytes : List Byte), s.Ready → bytes.length ≤ s.cfg.rxbufCap - s.rxbuf.length →
    rxProgram bytes s = drainRx
      { Claims.answered s (.ok (.count bytes.length)) with
        inp := { s.inp with read := .upTo bytes.length }
        rxbuf := s.rxbuf ++ bytes }

/-- R66: the buffer never overflows, what it has no room for stays in the transport, and a full buffer always lets
`RX_STEP` remove at least one byte. -/
def Obligations.FullBufferMakesProgress : Prop :=
  (∀ s t, s.rxbuf.length ≤ s.cfg.rxbufCap → exec .rxPoll s = .next t →
    t.rxbuf.length ≤ s.cfg.rxbufCap ∧ t.rxbuf ++ t.wire = s.rxbuf ++ s.wire)
  ∧ ∀ s : State, s.Ready → s.cfg.wf = true → s.rxbuf.length = s.cfg.rxbufCap →
    ∃ t, exec .rxStep s = .next t ∧ t.rxbuf.length < s.cfg.rxbufCap
      ∧ (s.cfg.syncByte ∉ s.rxbuf → t.rxbuf = [])
      ∧ t.rxbuf.length + syncIndex s.cfg s.rxbuf ≤ s.cfg.rxbufCap
      ∧ (syncIndex s.cfg s.rxbuf = 0 → t.result ≠ some .needMoreData)

/-! ### Host operations on a channel -/

/-- R161, R169: `ASSIGN` and `UNASSIGN`. R169 says that the configuration fields lose their values at `UNASSIGN`: that the
bits stored in them stay is the model's choice (assumption 2); no operation shows them. -/
def Obligations.AssignAndUnassign : Prop :=
  (∀ ch ty nw, Claims.ChannelOpRule (.assign ch ty nw) 0x02#8 ch [.unassigned] .assignChannel (fun _ _ => [ch, ty, nw])
    fun s v => { s with
      ch := s.ch.set ch.toNat { v with chanType := ty, network := nw, state := .assigned }
      result := some (.ok .none) })
  ∧ ∀ ch, Claims.ChannelOpRule (.unassign ch) 0x03#8 ch [.closed] .unassignChannel (fun _ _ => [ch])
    fun s v => { s with
      ch := s.ch.set ch.toNat { v with
        state := .unassigned, idSet := false, rfSet := false, periodSet := false, pairing := false, xfault := false }
      result := some (.ok .none) }

/-- R162, R163, R164, R106: the three configuration operations; `SET_CHANNEL_ID` carries the slot's pairing flag in the type
byte, for every device type, and the device type in the other bits wherever it leaves that bit clear; 16-bit fields travel
low byte first. That the operation runs on a device type that overlaps the bit (never at `PAIRING_BIT_POS = 7`), with the
byte's other bits free, is the model's choice (assumption 19). -/
def Obligations.ConfigurationOperations : Prop :=
  (∀ ch dn dt tt, Claims.ChannelOpRule (.setChannelId ch dn dt tt) 0x04#8 ch [.assigned] .setChannelId
    (fun s v => [ch, dn.setWidth 8, (dn >>> 8).setWidth 8,
      typeByte s.cfg v.pairing (dt.setWidth 8), tt])
    fun s v => { s with
      ch := s.ch.set ch.toNat { v with devNumber := dn, devType := dt, transType := tt, idSet := true }
      result := some (.ok .none) })
  ∧ (∀ ch freq, Claims.ChannelOpRule (.setRfFreq ch freq) 0x05#8 ch [.assigned] .setRfFreq (fun _ _ => [ch, freq])
    fun s v => { s with
      ch := s.ch.set ch.toNat { v with rfFreq := freq, rfSet := true }, result := some (.ok .none) })
  ∧ (∀ ch period, Claims.ChannelOpRule (.setPeriod ch period) 0x06#8 ch [.assigned] .setPeriod
    (fun _ _ => [ch, period.setWidth 8, (period >>> 8).setWidth 8])
    fun s v => { s with
      ch := s.ch.set ch.toNat { v with period := period, periodSet := true }, result := some (.ok .none) })
  ∧ (∀ (cfg : Config) (pairing : Bool) (devType : Byte), devType.getLsbD cfg.pairingBitPos = false →
      typeByte cfg pairing devType = ((if pairing then 1#8 else 0#8) <<< cfg.pairingBitPos) ||| devType)
  ∧ ∀ (cfg : Config) (pairing : Bool) (devType : Byte), cfg.pairingBitPos ≤ 7 →
      (typeByte cfg pairing devType).getLsbD cfg.pairingBitPos = pairing

/-- R165: `SET_PAIRING` writes the flag while `UNASSIGNED` or `ASSIGNED`, emits nothing, and fails elsewhere. -/
def Obligations.SetPairingWritesFlagOnly : Prop :=
  (∀ ch bit, Claims.Opcode (.setPairing ch bit) .host 0x07#8) ∧ ∀ (s : State) (ch : Byte) (bit : Bool), s.Ready →
    (s.nCh.toNat ≤ ch.toNat → exec (.setPairing ch bit) s = .next (Claims.answered s (.unknownChannel ch)))
    ∧ ∀ v, Claims.HasSlot s ch v →
      (v.state = .unassigned ∨ v.state = .assigned →
        exec (.setPairing ch bit) s = .next
          { Claims.answered s (.ok .none) with ch := s.ch.set ch.toNat { v with pairing := bit } })
      ∧ (v.state ≠ .unassigned → v.state ≠ .assigned →
        exec (.setPairing ch bit) s = .next (Claims.answered s (.invalidState ch v.state)))

/-- R166, R167, R168, R247: `OPEN`, `CLOSE` (which cancels the send in flight) and `SEND_BROADCAST` (which writes no state).
The bits the cancelled pending slot keeps are the model's choice (assumption 18). -/
def Obligations.OpenCloseAndBroadcast : Prop :=
  (∀ ch, Claims.ChannelOpRule (.openCh ch) 0x08#8 ch [.assigned] .openChannel (fun _ _ => [ch])
    fun s v => { s with ch := s.ch.set ch.toNat { v with state := .searching }, result := some (.ok .none) })
  ∧ (∀ ch, Claims.ChannelOpRule (.closeCh ch) 0x09#8 ch [.searching, .tracking] .closeChannel (fun _ _ => [ch])
    fun s v => { Claims.cancelled s ch with
      ch := s.ch.set ch.toNat { v with state := .closed }, result := some (.ok .none) })
  ∧ ∀ ch data, Claims.ChannelOpRule (.sendBroadcast ch data) 0x0A#8 ch [.searching, .tracking] .broadcastData
    (fun _ _ => [ch, data.d0, data.d1, data.d2, data.d3, data.d4, data.d5, data.d6, data.d7])
    fun s _ => { s with result := some (.ok .none) }

/-! ### Acknowledged sends -/

/-- What a submission does (R243), for the instruction `i` that submits a message of `kind` with the given content. -/
def Sys2Proof.Claims.SubmitRule (i : Instr) (op : Byte) (ch : Byte) (send : SendKind) (kind : Kind)
    (content : State → List Byte) : Prop :=
  Claims.Opcode i .host op ∧ ∀ s : State, s.Ready →
    (s.nCh.toNat ≤ ch.toNat → exec i s = .next (Claims.answered s (.unknownChannel ch)))
    ∧ ∀ v p, Claims.HasSlot s ch v → s.pa[ch.toNat]? = some p →
      (v.state.isOpen = false → exec i s = .next (Claims.answered s (.channelNotOpen ch v.state)))
      ∧ (v.state.isOpen = true → p.valid = true → exec i s = .next (Claims.answered s (.sendInProgress ch)))
      ∧ (v.state.isOpen = true → p.valid = false → s.cfg.maxContent < 9 →
          exec i s = .next (Claims.answered s (.encoding .tooLong)))
      ∧ (v.state.isOpen = true → p.valid = false → 9 ≤ s.cfg.maxContent → s.txAnswer = false →
          exec i s = .next
            { Claims.written s (Claims.frameOf s.cfg (s.cfg.idOf kind) (content s)) false with
              ch := s.ch.set ch.toNat { v with xfault := true }
              out := s.out ++ [.tx (Claims.frameOf s.cfg (s.cfg.idOf kind) (content s)) false,
                .note (.transportFail (some ch))]
              result := some (.transport (some ch)) })
      ∧ (v.state.isOpen = true → p.valid = false → 9 ≤ s.cfg.maxContent → s.txAnswer = true →
          exec i s = .next
            { Claims.written s (Claims.frameOf s.cfg (s.cfg.idOf kind) (content s)) true with
              pa := s.pa.set ch.toNat
                { valid := true, frame := Claims.frameOf s.cfg (s.cfg.idOf kind) (content s), kind := send
                  sentAt := s.inp.now, retries := 0#8 }
              result := some (.ok (.handle ch)) })

/-- R241, R242, R243, R105: `SEND_ACK` and `SEND_BURST`; the burst's first content byte is `seq << BURST_CH_BITS | ch`
wherever `seq` has room above the channel bits, and its low bits are the channel for every `seq`. That the operation runs
on a `seq` without room (never at `BURST_CH_BITS ≤ 5`), with the other bits free, is the model's choice (assumption 19). -/
def Obligations.SubmitRecordsOnePendingSend : Prop :=
  (∀ ch data, Claims.SubmitRule (.sendAck ch data) 0x0B#8 ch .ack .acknowledgedData fun _ =>
    [ch, data.d0, data.d1, data.d2, data.d3, data.d4, data.d5, data.d6, data.d7])
  ∧ (∀ ch seq data, Claims.SubmitRule (.sendBurst ch seq data) 0x0C#8 ch .burst .burstData fun s =>
    [burstByte s.cfg (seq.setWidth 8) ch,
      data.d0, data.d1, data.d2, data.d3, data.d4, data.d5, data.d6, data.d7])
  ∧ (∀ (cfg : Config) (seq chan : Byte), seq.toNat < 2 ^ (8 - cfg.burstChBits) →
      burstByte cfg seq chan = (seq <<< cfg.burstChBits) ||| chan)
  ∧ ∀ (cfg : Config) (seq chan : Byte), chan.toNat < 2 ^ cfg.burstChBits →
      burstChan cfg (burstByte cfg seq chan) = chan

/-- R248, R249: when the transport accepts every resend, `TICK` serves exactly the due sends, in ascending channel order:
each is resent once and its window restarts, or it fails when its retries are exhausted; nothing else changes. The bits a
resolved pending slot keeps are the model's choice (assumption 18). -/
def Obligations.TickServesDueSends : Prop :=
  ∀ s : State, s.Ready → s.nCh.toNat ≤ 256 → s.pa.length = s.nCh.toNat → (∀ a ∈ s.inp.txAnswers, a = true) →
    exec .tick s = .next
      { Claims.answered s (.ok .none) with
        inp := { s.inp with
          txAnswers := s.inp.txAnswers.drop
            (txStream ((List.range s.nCh.toNat).flatMap (Claims.serviceOutputs s))).length }
        pa := s.pa.map (Claims.served s)
        out := s.out ++ (List.range s.nCh.toNat).flatMap (Claims.serviceOutputs s) }

/-- R246, R248: `TICK` for every set of due sends and every list of answers of the transport. The due sends are served in
ascending channel order. One whose retries are exhausted fails. One with retries left is resent; an accepted resend counts
a retry and restarts the window, a refused one resolves the send as `TRANSPORT` and sets its channel's fault bit, and the
pass goes on. The result names the lowest channel whose resend was refused. Nothing else changes. The bits a resolved
pending slot keeps are the model's choice (assumption 18). -/
def Obligations.TickSurvivesRefusedResend : Prop :=
  ∀ s : State, s.Ready → s.nCh.toNat ≤ 256 →
    exec .tick s = .next
      { s with
        tLast := s.inp.now
        inp := { s.inp with
          txAnswers := s.inp.txAnswers.drop ((List.range s.nCh.toNat).countP (Claims.resendsAt s)) }
        ch := s.ch.mapIdx fun c v => if Claims.refusedAt s c then { v with xfault := true } else v
        pa := s.pa.mapIdx fun c p =>
          if (Claims.dueAt? s c).isNone then p
          else if p.retries.toNat < s.maxRetries.toNat then Claims.resent s p (Claims.answerAt s c)
          else { p with valid := false }
        out := s.out ++ (List.range s.nCh.toNat).flatMap (Claims.passOutputs s)
        result := some (match (List.range s.nCh.toNat).find? (Claims.refusedAt s) with
          | none => .ok .none
          | some c => .transport (some (BitVec.ofNat 8 c))) }

/-- R250: a send that is never answered, with nothing else in flight: over `max_retries + 1` due `TICK`s the same frame is
written exactly `max_retries` more times, then the send fails, and any later `TICK`s write nothing. -/
def Obligations.UnansweredSendFailsAfterBound : Prop :=
  ∀ (s : State) (c : Byte) (p : Pending) (times later : List Time),
    s.eng = .opened → Invariants s → s.inFlight? c = some p → p.retries = 0#8 →
    (∀ d, d ≠ c → s.inFlight? d = none) →
    times.length = s.maxRetries.toNat + 1 →
    Claims.Spaced s.ackTimeout.toNat p.sentAt.toNat times →
    (∀ t ∈ times, s.tLast.toNat ≤ t.toNat) →
    Claims.Spaced 0 0 (times ++ later) →
    ∃ t, Claims.tickRun (times ++ later) s = .next t ∧ (∀ d, t.inFlight? d = none)
      ∧ t.out = s.out ++ List.replicate s.maxRetries.toNat (.tx p.frame true) ++ [.note (.ackResolved c .failed)]
      ∧ t.ch = s.ch

/-- R252: a send in flight is resolved exactly once, with one notification, in the step in which it ceases; until then it
is changed only by a resend, which counts a retry and restarts the window; and no send is resolved that was not in
flight. -/
def Obligations.PendingSendResolvedExactlyOnce : Prop :=
  ∀ (i : Instr) (s t : State) (c : Byte), Invariants s → exec i s = .next t →
    ∃ es, t.out = s.out ++ es
      ∧ (s.inFlight? c = none → Claims.resolutions c es = [])
      ∧ ∀ p, s.inFlight? c = some p →
        (t.inFlight? c = none ∧ ∃ o, Claims.resolutions c es = [o])
        ∨ (Claims.resolutions c es = [] ∧ ∃ q, t.inFlight? c = some q ∧
            (q = p ∨ (p.retries.toNat < s.maxRetries.toNat ∧
              q = { p with retries := p.retries + 1#8, sentAt := s.inp.now })))

/-! ### Inbound frames -/

/-- R203, R204, R205: what every channel-bearing message meets before its own rule: no channel byte, an unknown or
unassigned channel, a closed channel, a wrong length, in this order. -/
def Obligations.InboundRejections : Prop :=
  ∀ (i : Instr) (s : State) (k : Kind), s.Ready →
    (Claims.inbound? s.cfg i = some (k, []) →
      exec i s = .next
        { Claims.answered s (.dropped .malformed) with
          out := s.out ++ [.note (.warning (.malformed (s.cfg.idOf k) none))] })
    ∧ ∀ c0 rest c, Claims.inbound? s.cfg i = some (k, c0 :: rest) → chanOf s.cfg k c0 = c →
      (s.nCh.toNat ≤ c.toNat ∨ (∃ v, Claims.HasSlot s c v ∧ v.state = .unassigned) →
        exec i s = .next
          { Claims.answered s (.unknownChannel c) with
            out := s.out ++ [.note (.warning (.unknownChannel (s.cfg.idOf k) c))] })
      ∧ ∀ v, Claims.HasSlot s c v →
        (v.state = .closed → exec i s = .next (Claims.answered s (.dropped .closed)))
        ∧ (v.state ≠ .unassigned → v.state ≠ .closed → k.contentLength ≠ some (rest.length + 1) →
          exec i s = .next
            { Claims.answered s (.dropped .malformed) with
              out := s.out ++ [.note (.warning (.malformed (s.cfg.idOf k) (some c)))] })

/-- A message dropped with an `UNEXPECTED` warning: nothing else changes (R216). -/
def Sys2Proof.Claims.droppedUnexpected (s : State) (k : Kind) (c : Byte) : State :=
  { Claims.answered s (.dropped .unexpected) with
    out := s.out ++ [.note (.warning (.unexpected (s.cfg.idOf k) c))] }

/-- R216: the eight outbound-only kinds, well formed, from the device for a channel that is not `UNASSIGNED` or `CLOSED`:
dropped with a warning, no state change. -/
def Obligations.OutboundOnlyKindsDropped : Prop :=
  ∀ (s : State) (c : Byte) (v : Channel), s.Ready → Claims.HasSlot s c v → v.state ≠ .unassigned → v.state ≠ .closed →
    ∀ x y z w : Byte,
      exec (.msgAssignChannel [c, x, y]) s = .next (Claims.droppedUnexpected s .assignChannel c)
      ∧ exec (.msgUnassignChannel [c]) s = .next (Claims.droppedUnexpected s .unassignChannel c)
      ∧ exec (.msgSetChannelId [c, x, y, z, w]) s = .next (Claims.droppedUnexpected s .setChannelId c)
      ∧ exec (.msgSetRfFreq [c, x]) s = .next (Claims.droppedUnexpected s .setRfFreq c)
      ∧ exec (.msgSetPeriod [c, x, y]) s = .next (Claims.droppedUnexpected s .setPeriod c)
      ∧ exec (.msgOpenChannel [c]) s = .next (Claims.droppedUnexpected s .openChannel c)
      ∧ exec (.msgCloseChannel [c]) s = .next (Claims.droppedUnexpected s .closeChannel c)
      ∧ exec (.msgRequestMessage [c, x]) s = .next (Claims.droppedUnexpected s .requestMessage c)

/-- What a data message does on an open or assigned channel (R211, R212). -/
def Sys2Proof.Claims.DataRule (i : Instr) (s : State) (k : Kind) (c : Byte) (kind : DataKind) (seq : Byte)
    (data : Payload) : Prop :=
  ∀ v, Claims.HasSlot s c v →
    (v.state = .searching → exec i s = .next
      { Claims.answered s (.ok .none) with
        ch := s.ch.set c.toNat { v with state := .tracking }
        out := s.out ++ [.note (.deviceFound c), .note (.data c kind seq data)] })
    ∧ (v.state = .tracking → exec i s = .next
      { Claims.answered s (.ok .none) with out := s.out ++ [.note (.data c kind seq data)] })
    ∧ (v.state = .assigned → exec i s = .next
      { Claims.answered s (.dropped .unexpected) with
        out := s.out ++ [.note (.warning (.unexpected (s.cfg.idOf k) c))] })

/-- R211, R212: broadcast, acknowledged and burst data while `SEARCHING`, `TRACKING` and `ASSIGNED`. -/
def Obligations.DataMessagesTrackAndSurface : Prop :=
  ∀ (s : State) (c0 : Byte) (data : Payload), s.Ready →
    Claims.DataRule (.msgBroadcastData (c0 :: data.bytes)) s .broadcastData c0 .broadcast 0#8 data
    ∧ Claims.DataRule (.msgAcknowledgedData (c0 :: data.bytes)) s .acknowledgedData c0 .acknowledged 0#8 data
    ∧ Claims.DataRule (.msgBurstData (c0 :: data.bytes)) s .burstData
        (BitVec.ofNat 8 (c0.toNat % 2 ^ s.cfg.burstChBits)) .burst (c0 >>> s.cfg.burstChBits) data

/-- R213, R214, R247: `RX_SEARCH_TIMEOUT` closes a searching channel and cancels its send; `RX_FAIL_GO_TO_SEARCH` sends a
tracking channel back to searching; in the other states both are only forwarded. The bits the cancelled pending slot
keeps are the model's choice (assumption 18). -/
def Obligations.SearchEventsMoveTheChannel : Prop :=
  ∀ (s : State) (c initId : Byte) (v : Channel), s.Ready → Claims.HasSlot s c v → v.state ≠ .unassigned →
    v.state ≠ .closed →
    (v.state = .searching → exec (.evtRxSearchTimeout c initId) s = .next
      { Claims.cancelled { Claims.answered s (.ok .none) with
          out := s.out ++ [.note (.channelEvent c initId s.cfg.evRxSearchTimeout)] } c with
        ch := s.ch.set c.toNat { v with state := .closed } })
    ∧ (v.state ≠ .searching → exec (.evtRxSearchTimeout c initId) s = .next
      { Claims.answered s (.ok .none) with
        out := s.out ++ [.note (.channelEvent c initId s.cfg.evRxSearchTimeout)] })
    ∧ (v.state = .tracking → exec (.evtRxFailGoToSearch c initId) s = .next
      { Claims.answered s (.ok .none) with
        ch := s.ch.set c.toNat { v with state := .searching }
        out := s.out ++ [.note (.channelEvent c initId s.cfg.evRxFailGoToSearch)] })
    ∧ (v.state ≠ .tracking → exec (.evtRxFailGoToSearch c initId) s = .next
      { Claims.answered s (.ok .none) with
        out := s.out ++ [.note (.channelEvent c initId s.cfg.evRxFailGoToSearch)] })

/-- R215, R244, R245, R246: the transfer events are forwarded, then a completion resolves the send in flight, a failure
resends its frame or, when the retries are exhausted, fails it, or, when the transport refuses the resend, resolves it as
`TRANSPORT`; with nothing in flight they do no more. That `N_CHANNEL_EVENT` stands before the resent frame in the outputs
is the model's reading, the pseudocode's order (assumption 12: a sentence of R322 says otherwise); the bits a resolved
pending slot keeps are its choice (assumption 18). -/
def Obligations.TransferEventsResolveOrRetry : Prop :=
  ∀ (s : State) (c initId : Byte) (v : Channel) (p : Pending), s.Ready → Claims.HasSlot s c v →
    v.state ≠ .unassigned → v.state ≠ .closed → s.pa[c.toNat]? = some p →
    (p.valid = true → exec (.evtTransferTxCompleted c initId) s = .next
      { Claims.answered s (.ok .none) with
        pa := s.pa.set c.toNat { p with valid := false }
        out := s.out ++ [.note (.channelEvent c initId s.cfg.evTransferTxCompleted), .note (.ackResolved c .success)] })
    ∧ (p.valid = false → exec (.evtTransferTxCompleted c initId) s = .next
      { Claims.answered s (.ok .none) with
        out := s.out ++ [.note (.channelEvent c initId s.cfg.evTransferTxCompleted)] })
    ∧ (p.valid = false → exec (.evtTransferTxFailed c initId) s = .next
      { Claims.answered s (.ok .none) with
        out := s.out ++ [.note (.channelEvent c initId s.cfg.evTransferTxFailed)] })
    ∧ (p.valid = true → s.maxRetries.toNat ≤ p.retries.toNat → exec (.evtTransferTxFailed c initId) s = .next
      { Claims.answered s (.ok .none) with
        pa := s.pa.set c.toNat { p with valid := false }
        out := s.out ++ [.note (.channelEvent c initId s.cfg.evTransferTxFailed), .note (.ackResolved c .failed)] })
    ∧ (p.valid = true → p.retries.toNat < s.maxRetries.toNat → s.txAnswer = true →
      exec (.evtTransferTxFailed c initId) s = .next
        { Claims.answered s (.ok .none) with
          inp := { s.inp with txAnswers := s.inp.txAnswers.tail }
          pa := s.pa.set c.toNat { p with retries := p.retries + 1#8, sentAt := s.inp.now }
          out := s.out ++ [.note (.channelEvent c initId s.cfg.evTransferTxFailed), .tx p.frame true] })
    ∧ (p.valid = true → p.retries.toNat < s.maxRetries.toNat → s.txAnswer = false →
      exec (.evtTransferTxFailed c initId) s = .next
        { Claims.answered s (.transport (some c)) with
          inp := { s.inp with txAnswers := s.inp.txAnswers.tail }
          ch := s.ch.set c.toNat { v with xfault := true }
          pa := s.pa.set c.toNat { p with valid := false }
          out := s.out ++ [.note (.channelEvent c initId s.cfg.evTransferTxFailed), .tx p.frame false,
            .note (.transportFail (some c)), .note (.ackResolved c .transport)] })

/-- R113, R217: a channel event whose code is none of the four is forwarded and changes nothing. -/
def Obligations.OtherEventsForwarded : Prop :=
  ∀ (s : State) (c initId code : Byte) (v : Channel), s.Ready → Claims.HasSlot s c v → v.state ≠ .unassigned →
    v.state ≠ .closed → code ∉ s.cfg.eventCodes →
    exec (.msgChannelEvent [c, initId, code]) s = .next
      { Claims.answered s (.ok .none) with out := s.out ++ [.note (.channelEvent c initId code)] }

/-- R201, R202: system messages are surfaced with their content untouched; an unrecognized id is reported and dropped. -/
def Obligations.SystemAndUnknownMessages : Prop :=
  ∀ (s : State) (id : Byte) (content : List Byte), s.Ready →
    exec (.msgCapabilities content) s = .next
      { Claims.answered s (.ok .none) with out := s.out ++ [.note (.system s.cfg.idCapabilities content)] }
    ∧ exec (.msgSerialNumber content) s = .next
      { Claims.answered s (.ok .none) with out := s.out ++ [.note (.system s.cfg.idSerialNumber content)] }
    ∧ exec (.msgStartup content) s = .next
      { Claims.answered s (.ok .none) with out := s.out ++ [.note (.system s.cfg.idStartup content)] }
    ∧ exec (.msgUnrecognizedId id content) s = .next
      { Claims.answered s (.dropped .unknownId) with out := s.out ++ [.note (.warning (.unknownId id))] }

/-! ### Engine operations -/

/-- R23, R41, R280, R308: `ENGINE_OPEN` gives every piece of state the value of R41's table (a field the table leaves
without a value is not mentioned), the two policy values being the operands, or the parameters' defaults where the host
passes none. When the transport does not open it sets the engine's fault bit, emits `N_TRANSPORT_FAIL(none)` and answers
`E_TRANSPORT(none)`, and nothing else changes but the sampled time: that R308's effect belongs to this failure although
R280's pseudocode does not write it out is the model's reading (assumption 11), and that it samples the time is
(assumption 9). -/
def Obligations.EngineOpenIsReset : Prop :=
  ∀ (s : State) (n : BitVec 9) (ackTimeout : Option Time) (maxRetries : Option Byte),
    s.eng = .closed → s.tLast.toNat ≤ s.inp.now.toNat →
    1 ≤ n.toNat → n.toNat ≤ 2 ^ s.cfg.burstChBits → 1 ≤ (ackTimeout.getD s.cfg.ackTimeout).toNat →
    (s.inp.openOk = true → ∃ t, exec (.engineOpen n ackTimeout maxRetries) s = .next t
      ∧ t.eng = .opened ∧ t.nCh = n ∧ (∀ a, ackTimeout = some a → t.ackTimeout = a)
      ∧ (ackTimeout = none → t.ackTimeout = s.cfg.ackTimeout) ∧ (∀ r, maxRetries = some r → t.maxRetries = r)
      ∧ (maxRetries = none → t.maxRetries = s.cfg.maxRetries) ∧ t.xfault = false
      ∧ t.rxbuf = [] ∧ t.rxPos = 0#64 ∧ t.tLast = s.inp.now ∧ t.result = some (.ok .none)
      ∧ t.out = s.out ++ [.transportOpen true]
      ∧ t.ch.length = n.toNat ∧ t.pa.length = n.toNat
      ∧ (∀ v ∈ t.ch, v.state = .unassigned ∧ v.idSet = false ∧ v.rfSet = false ∧ v.periodSet = false
          ∧ v.pairing = false ∧ v.xfault = false)
      ∧ ∀ p ∈ t.pa, p.valid = false)
    ∧ (s.inp.openOk = false → exec (.engineOpen n ackTimeout maxRetries) s = .next
      { Claims.answered s (.transport none) with
        xfault := true
        out := s.out ++ [.transportOpen false, .note (.transportFail none)] })

/-- The state right after reset is what `ENGINE_OPEN n=8, ack_timeout=50, max_retries=3`, or `ENGINE_OPEN n=8` with the
defaults, leaves of the powered-on block. That reset stands opened with these operands is the model's choice
(assumption 2). -/
def Obligations.ResetIsOpenedEngine : Prop :=
  exec (.engineOpen 8#9 (some 50#64) (some 3#8)) (State.powerOn .default)
    = .next { State.reset with out := [.transportOpen true], result := some (.ok .none) }
  ∧ exec (.engineOpen 8#9 none none) (State.powerOn .default)
    = .next { State.reset with out := [.transportOpen true], result := some (.ok .none) }

/-- R281: `ENGINE_CLOSE` resolves every send in flight as `CANCELLED`, in ascending channel order, empties the buffer and
closes; it writes no frame. That the fields no operation can reach any more and the transport's bytes stay as they are is
the model's choice (assumptions 2 and 17), and so are the bits the cancelled pending slots keep (assumption 18). -/
def Obligations.EngineCloseCancelsEverything : Prop :=
  Claims.Opcode .engineClose .host 0x01#8 ∧ ∀ s : State, s.Ready → s.nCh.toNat ≤ 256 → s.pa.length = s.nCh.toNat →
    exec .engineClose s = .next
      { Claims.answered s (.ok .none) with
        eng := .closed
        rxbuf := []
        pa := s.pa.map fun p => { p with valid := false }
        out := s.out
          ++ ((List.range s.nCh.toNat).filter fun c => ((s.pa[c]?).map Pending.valid).getD false).map
              (fun c => .note (.ackResolved (BitVec.ofNat 8 c) .cancelled))
          ++ [.transportClose] }

/-- R282: `REQUEST` looks up no channel; a refused write sets the engine's fault bit. -/
def Obligations.RequestNeedsNoChannel : Prop :=
  (∀ ch reqId, Claims.Opcode (.request ch reqId) .host 0x0D#8) ∧ ∀ (s : State) (ch reqId : Byte), s.Ready →
    (s.cfg.maxContent < 2 → exec (.request ch reqId) s = .next (Claims.answered s (.encoding .tooLong)))
    ∧ (2 ≤ s.cfg.maxContent → s.txAnswer = true → exec (.request ch reqId) s = .next
      { Claims.written s (Claims.frameOf s.cfg s.cfg.idRequestMessage [ch, reqId]) true with
        result := some (.ok .none) })
    ∧ (2 ≤ s.cfg.maxContent → s.txAnswer = false → exec (.request ch reqId) s = .next
      { Claims.written s (Claims.frameOf s.cfg s.cfg.idRequestMessage [ch, reqId]) false with
        xfault := true
        out := s.out ++ [.tx (Claims.frameOf s.cfg s.cfg.idRequestMessage [ch, reqId]) false,
          .note (.transportFail none)]
        result := some (.transport none) })

/-- R285, R286: the status reads. Every field of `GET_CHANNEL` that holds a value is returned; of the others nothing is
said: they are free values. Nothing changes but the result, the sampled time and the index of the free values. -/
def Obligations.StatusReadsReturnState : Prop :=
  (∀ ch, Claims.Opcode (.getChannel ch) .host 0x0E#8) ∧ Claims.Opcode .getEngine .host 0x0F#8
  ∧ (∀ (s : State) (ch : Byte), s.Ready →
    (s.nCh.toNat ≤ ch.toNat → exec (.getChannel ch) s = .next (Claims.answered s (.unknownChannel ch)))
    ∧ ∀ v p, Claims.HasSlot s ch v → s.pa[ch.toNat]? = some p → ∃ view : ChannelView,
      exec (.getChannel ch) s = .next
        { Claims.answered s (.ok (.channel view)) with freeIdx := s.freeIdx + 1 }
      ∧ view.state = v.state ∧ view.idSet = v.idSet ∧ view.rfSet = v.rfSet ∧ view.periodSet = v.periodSet
      ∧ view.pairing = v.pairing ∧ view.xfault = v.xfault ∧ view.pending = p.valid
      ∧ (v.state ≠ .unassigned → view.chanType = v.chanType ∧ view.network = v.network)
      ∧ (v.idSet = true → view.devNumber = v.devNumber ∧ view.devType = v.devType ∧ view.transType = v.transType)
      ∧ (v.rfSet = true → view.rfFreq = v.rfFreq)
      ∧ (v.periodSet = true → view.period = v.period))
  ∧ ∀ s : State, s.Ready → exec .getEngine s = .next (Claims.answered s (.ok (.engine
      { eng := .opened, nCh := s.nCh, ackTimeout := s.ackTimeout, maxRetries := s.maxRetries, xfault := s.xfault
        rxPos := s.rxPos, rxLen := s.rxbuf.length })))

/-! ### The whole machine -/

/-- R21, R33, R352: what is not accepted is no step: operands out of range, a closed engine, an open engine for
`ENGINE_OPEN`, time running backwards; everything else is accepted and answered. The model's own: which name a refusal
takes (assumption 13), and that the codec port is refused while closed (assumption 10). -/
def Obligations.AcceptedExactlyWhenAllowed : Prop :=
  ∀ (i : Instr) (s : State),
    (Claims.operandsInRange s.cfg i = false → exec i s = .refused .operandRange)
    ∧ (Claims.operandsInRange s.cfg i = true → Claims.isEngineOpen i = false → s.eng = .closed →
        exec i s = .refused .engineClosed)
    ∧ (Claims.operandsInRange s.cfg i = true → Claims.isEngineOpen i = true → s.eng = .opened →
        exec i s = .refused .engineOpen)
    ∧ (Claims.operandsInRange s.cfg i = true → (Claims.isEngineOpen i = true ↔ s.eng = .closed) →
        s.inp.now.toNat < s.tLast.toNat → exec i s = .refused .timeBackwards)
    ∧ (Claims.operandsInRange s.cfg i = true → (Claims.isEngineOpen i = true ↔ s.eng = .closed) →
        s.tLast.toNat ≤ s.inp.now.toNat → ∃ t r, exec i s = .next t ∧ t.result = some r)

/-- R21 to R24, R31 to R33: who writes the engine registers, the buffer and the cursor; the sticky engine fault; every
accepted operation samples the time; the parameters never change. The model's own: that `ENCODE`, `DECODE` and a failed
`ENGINE_OPEN` sample the time (assumption 9), and that `ENGINE_CLOSE` keeps `n_ch`, the policy values, `rx_pos` and the
transport's bytes (assumptions 2 and 17: R341 says all other state is lost). -/
def Obligations.RegisterWriters : Prop :=
  ∀ (i : Instr) (s t : State), exec i s = .next t →
    t.cfg = s.cfg ∧ t.queue = s.queue ∧ t.tLast = s.inp.now ∧ t.inp.now = s.inp.now
    ∧ (Claims.isEngineOpen i = false → i ≠ .engineClose → t.eng = s.eng)
    ∧ (Claims.isEngineOpen i = false →
        t.nCh = s.nCh ∧ t.ackTimeout = s.ackTimeout ∧ t.maxRetries = s.maxRetries
        ∧ (s.xfault = true → t.xfault = true)
        ∧ t.ch.length = s.ch.length ∧ t.pa.length = s.pa.length)
    ∧ (Claims.isEngineOpen i = false → i ≠ .engineClose → i ≠ .rxPoll → i ≠ .rxStep → t.rxbuf = s.rxbuf)
    ∧ (Claims.isEngineOpen i = false → i ≠ .rxStep → t.rxPos = s.rxPos)
    ∧ (i ≠ .rxPoll → t.wire = s.wire)

/-- R27, R28, R29: who writes the configuration fields with their valid bits, the pairing flag and the sticky fault bit
of a slot. That the configuration fields keep their stored bits through `UNASSIGN` and `ENGINE_CLOSE` is the model's
choice (assumption 2: R169 says they lose their values, R42 that `UNASSIGN` invalidates them). -/
def Obligations.SlotFieldWriters : Prop :=
  ∀ (i : Instr) (s t : State) (c : Byte) (v w : Channel), exec i s = .next t → Claims.isEngineOpen i = false →
    s.ch[c.toNat]? = some v → t.ch[c.toNat]? = some w →
    ((∀ ty nw, i ≠ .assign c ty nw) → w.chanType = v.chanType ∧ w.network = v.network)
    ∧ ((∀ dn dt tt, i ≠ .setChannelId c dn dt tt) →
        w.devNumber = v.devNumber ∧ w.devType = v.devType ∧ w.transType = v.transType
        ∧ (i ≠ .unassign c → w.idSet = v.idSet))
    ∧ ((∀ f, i ≠ .setRfFreq c f) → w.rfFreq = v.rfFreq ∧ (i ≠ .unassign c → w.rfSet = v.rfSet))
    ∧ ((∀ p, i ≠ .setPeriod c p) → w.period = v.period ∧ (i ≠ .unassign c → w.periodSet = v.periodSet))
    ∧ ((∀ b, i ≠ .setPairing c b) → i ≠ .unassign c → w.pairing = v.pairing)
    ∧ (i ≠ .unassign c → v.xfault = true → w.xfault = true)

/-- R34, R35, R71, R219: outputs are only appended; every operation but `TICK` writes at most one frame; and the only
frame an inbound message causes is the resend of the pending frame on a transfer-failed event. -/
def Obligations.OutputsAppended : Prop :=
  ∀ (i : Instr) (s t : State), exec i s = .next t → ∃ es, t.out = s.out ++ es
    ∧ (i ≠ .tick → (txStream es).length ≤ 1)
    ∧ (Claims.isFrame (s.running i) = true → txStream es ≠ [] →
        ∃ chan initId p, s.running i = .evtTransferTxFailed chan initId ∧ s.inFlight? chan = some p
          ∧ txStream es = [p.frame])

/-- R159, R330: the channel state changes only along the listed transitions, each by its own operation or inbound message
on that channel; `RX_STEP` stands for the frame it runs. -/
def Obligations.OnlyListedTransitions : Prop :=
  ∀ (i : Instr) (s t : State) (c : Byte) (v w : Channel), exec i s = .next t → Claims.isEngineOpen i = false →
    s.slot? c = some v → t.slot? c = some w → w.state ≠ v.state →
    Transition c v.state w.state s.cfg (s.running i)

/-- R67, R171, R219: isolation. An operation on one channel neither reads nor writes another channel's slots: it
commutes with any overwriting of them. -/
def Obligations.ChannelsIsolated : Prop :=
  ∀ (i : Instr) (s : State) (d : Byte) (v : Channel) (p : Pending), Claims.servesAll i = false →
    Claims.addressed? s.cfg (s.running i) ≠ some d →
    exec i (Claims.overwrite d v p s) = Claims.mapNext (Claims.overwrite d v p) (exec i s)

/-- R40: the invariants hold after reset. -/
def Obligations.ResetSatisfiesInvariants : Prop := Invariants State.reset

/-- R40: every step keeps the invariants. -/
def Obligations.StepKeepsInvariants : Prop :=
  ∀ s t : State, Invariants s → step s = .next t → Invariants t

/-- R40, invariant I5 whole: every step keeps it, for every channel, against the slot's past as the step extends it. The
other invariants are a premise: I1 rules out a resend that faults an `UNASSIGNED` slot. -/
def Obligations.StepKeepsUnassignedSlots : Prop :=
  ∀ (s t : State) (p : Presented) (rest : List Presented) (i : Instr) (c : Byte) (past : Past),
    s.queue = p :: rest → p.instr = .ok i → Invariants s → UnassignedInv s c past → step s = .next t →
    UnassignedInv t c (past.after c i t)

/-- R40, R41: it holds of every slot after an `ENGINE_OPEN` that opened, whose past is fresh, and after reset (the state
that stands for reset is the model's choice, assumption 2). -/
def Obligations.OpenedSlotsAreFresh : Prop :=
  (∀ (s t : State) (n : BitVec 9) (ackTimeout : Option Time) (maxRetries : Option Byte) (c : Byte) (past : Past),
    s.inp.openOk = true → exec (.engineOpen n ackTimeout maxRetries) s = .next t →
    past.after c (.engineOpen n ackTimeout maxRetries) t = .fresh ∧ UnassignedInv t c .fresh)
  ∧ ∀ c, UnassignedInv State.reset c .fresh
end

