-- ==== Sys2Proof/Laws/Codec.lean ====
section
/-! SUPPORT. The functions of the codec, one lemma each: the fold, the id table, the sync search, little-endian words, the
frame builder and the verdict of `DECODE`. -/

namespace Sys2Proof

/-! ### The fold -/

@[simp] theorem xorFold_nil : xorFold [] = 0#8 := rfl

theorem xorFold_concat (bs : List Byte) (b : Byte) : xorFold (bs ++ [b]) = xorFold bs ^^^ b := by
  simp [xorFold]

theorem foldl_xor (bs : List Byte) :
    ∀ acc : Byte, bs.foldl (fun a b => a ^^^ b) acc = acc ^^^ bs.foldl (fun a b => a ^^^ b) 0#8 := by
  induction bs with
  | nil => intro acc; simp
  | cons b bs ih =>
    intro acc
    rw [List.foldl_cons, List.foldl_cons, ih (acc ^^^ b), ih (0#8 ^^^ b), BitVec.zero_xor, BitVec.xor_assoc]

theorem xorFold_cons (b : Byte) (bs : List Byte) : xorFold (b :: bs) = b ^^^ xorFold bs := by
  unfold xorFold
  rw [List.foldl_cons, foldl_xor, BitVec.zero_xor]

/-! ### Message ids -/

theorem Kind.mem_all (k : Kind) : k ∈ Kind.all := by cases k <;> decide

theorem Config.idOf_mem_ids (cfg : Config) (k : Kind) : cfg.idOf k ∈ cfg.ids := List.mem_map_of_mem k.mem_all

theorem Config.kindOf?_idOf_of_some {cfg : Config} {id : Byte} {k : Kind} (h : cfg.kindOf? id = some k) :
    cfg.idOf k = id := by
  simpa using List.find?_some h

theorem Config.kindOf?_eq_none {cfg : Config} {id : Byte} : cfg.kindOf? id = none ↔ id ∉ cfg.ids := by
  simp only [Config.kindOf?, List.find?_eq_none, Config.ids, List.mem_map]
  constructor
  · rintro h ⟨k, hk, rfl⟩
    exact h k hk (by simp)
  · intro h k hk e
    exact h ⟨k, hk, by simpa using e⟩

theorem Config.kindOf?_isSome (cfg : Config) (k : Kind) : (cfg.kindOf? (cfg.idOf k)).isSome = true := by
  cases h : cfg.kindOf? (cfg.idOf k) with
  | none => exact absurd (cfg.idOf_mem_ids k) (kindOf?_eq_none.1 h)
  | some _ => rfl

/-- Distinct kinds have distinct ids in a legal configuration. -/
theorem Config.idOf_injective {cfg : Config} (h : cfg.ids.Nodup) {k l : Kind} (e : cfg.idOf k = cfg.idOf l) : k = l :=
  List.inj_on_of_nodup_map h k.mem_all l.mem_all e

theorem Config.kindOf?_eq_some {cfg : Config} (h : cfg.ids.Nodup) {id : Byte} {k : Kind} :
    cfg.kindOf? id = some k ↔ cfg.idOf k = id := by
  refine ⟨kindOf?_idOf_of_some, ?_⟩
  rintro rfl
  obtain ⟨l, hl⟩ := Option.isSome_iff_exists.1 (cfg.kindOf?_isSome k)
  rw [hl, idOf_injective h (kindOf?_idOf_of_some hl)]

theorem Config.ids_nodup {cfg : Config} (h : cfg.wf = true) : cfg.ids.Nodup := by
  simp only [Config.wf, Config.parametersLegal, Bool.and_eq_true, decide_eq_true_eq] at h
  exact h.1.1.1.1.2

theorem Config.eventCodes_nodup {cfg : Config} (h : cfg.wf = true) : cfg.eventCodes.Nodup := by
  simp only [Config.wf, Config.parametersLegal, Bool.and_eq_true, decide_eq_true_eq] at h
  exact h.1.1.1.2

/-- The numeric constraints of R6 (and assumption 6) of a legal configuration. -/
theorem Config.wf_bounds {cfg : Config} (h : cfg.wf = true) :
    cfg.lenBias ≤ 1 ∧ cfg.maxContent ≤ 255 - cfg.lenBias ∧ 255 - cfg.lenBias + 4 ≤ cfg.rxbufCap
      ∧ cfg.pairingBitPos ≤ 7 ∧ cfg.burstChBits ≤ 8 := by
  simp only [Config.wf, Config.parametersLegal, Bool.and_eq_true, decide_eq_true_eq] at h
  exact ⟨h.1.1.1.1.1.1.1.1.1.1, h.1.1.1.1.1.1.1.1.1.2, h.1.1.2, h.1.2, h.2⟩

/-- Every configuration that meets R6 is legal for the claims, given the model's two bounds (assumptions 6 and 8). -/
theorem Config.wf_of_meetsR6 {cfg : Config} (h : cfg.meetsR6 = true) (hp : cfg.pairingBitPos ≤ 7)
    (hb : cfg.burstChBits ≤ 8) : cfg.wf = true := by
  simp only [Config.meetsR6, Bool.and_eq_true, decide_eq_true_eq] at h
  simp only [Config.wf, Bool.and_eq_true, decide_eq_true_eq]
  exact ⟨⟨⟨h.1, by omega⟩, hp⟩, hb⟩

/-! ### The fields a content carries -/

namespace Machine

@[simp] theorem sentDevType_of_fits {cfg : Config} {devType : Byte} (pairing : Bool)
    (h : cfg.devTypeFits devType = true) : sentDevType cfg pairing devType = devType := if_pos h

@[simp] theorem sentSeq_of_fits {cfg : Config} {seq : Byte} (chan : Byte) (h : cfg.seqFits seq = true) :
    sentSeq cfg seq chan = seq := if_pos h

/-- What a content carries as device type leaves the pairing bit clear, whatever the record's device type. -/
theorem sentDevType_fits (cfg : Config) (pairing : Bool) (devType : Byte) :
    cfg.devTypeFits (sentDevType cfg pairing devType) = true := by
  unfold sentDevType
  split
  · assumption
  · by_cases hp : cfg.pairingBitPos < 8 <;> simp [Config.devTypeFits, devTypeOf, hp]

/-- What a content carries as sequence has room above the channel bits, whatever the record's sequence. -/
theorem sentSeq_fits {cfg : Config} (h : cfg.burstChBits ≤ 8) (seq chan : Byte) :
    cfg.seqFits (sentSeq cfg seq chan) = true := by
  unfold sentSeq
  split
  · assumption
  · rw [Config.seqFits, decide_eq_true_eq, BitVec.toNat_ushiftRight, Nat.shiftRight_eq_div_pow]
    refine Nat.div_lt_of_lt_mul ?_
    rw [← Nat.pow_add, Nat.add_sub_cancel' h]
    exact BitVec.isLt _

/-- A burst record's content is that of the record with the sequence it carries. -/
theorem contentOf_sentSeq {cfg : Config} (h : cfg.burstChBits ≤ 8) (chan seq : Byte) (data : Payload) :
    contentOf cfg (.burstData chan (sentSeq cfg seq chan) data) = contentOf cfg (.burstData chan seq data) := by
  simp [contentOf, burstByte, sentSeq_fits h]

end Machine

/-! ### Payloads and little-endian words -/

@[simp] theorem payloadOf?_bytes (p : Payload) : payloadOf? p.bytes = some p := rfl

theorem payloadOf?_eq_some {l : List Byte} {p : Payload} : payloadOf? l = some p ↔ l = p.bytes := by
  constructor
  · intro h
    unfold payloadOf? at h
    split at h
    · cases h
      rfl
    · cases h
  · rintro rfl
    rfl

@[simp] theorem leBytes_length (k n : Nat) : (leBytes k n).length = k := by
  induction k generalizing n with
  | zero => rfl
  | succ k ih => simp [leBytes, ih]

/-- A word that fits its bytes is read back from them. -/
theorem leValue_leBytes (k n : Nat) (h : n < 256 ^ k) : leValue (leBytes k n) = n := by
  induction k generalizing n with
  | zero => simp [leBytes, leValue] at *; omega
  | succ k ih =>
    have : n / 256 < 256 ^ k := by rw [Nat.pow_succ] at h; omega
    simp only [leBytes, leValue, ih _ this, BitVec.toNat_ofNat]
    omega

/-! ### The sync search -/

theorem syncIndex_le (cfg : Config) (buf : List Byte) : syncIndex cfg buf ≤ buf.length := by
  induction buf with
  | nil => simp [syncIndex]
  | cons b bs ih => simp only [syncIndex, List.length_cons]; split <;> omega

theorem not_mem_take_syncIndex (cfg : Config) (buf : List Byte) : cfg.syncByte ∉ buf.take (syncIndex cfg buf) := by
  induction buf with
  | nil => simp [syncIndex]
  | cons b bs ih =>
    simp only [syncIndex]
    split
    · simp
    · simp only [List.take_succ_cons, List.mem_cons, not_or]
      exact ⟨fun e => ‹¬ _› e.symm, ih⟩

/-- What the search finds is a sync byte. -/
theorem drop_syncIndex {cfg : Config} {buf : List Byte} (h : syncIndex cfg buf < buf.length) :
    ∃ rest, buf.drop (syncIndex cfg buf) = cfg.syncByte :: rest := by
  induction buf with
  | nil => simp [syncIndex] at h
  | cons b bs ih =>
    simp only [syncIndex] at *
    split
    · rename_i e
      exact ⟨bs, by simp [e]⟩
    · rename_i e
      rw [if_neg e, List.length_cons] at h
      exact ih (by omega)

theorem syncIndex_append {cfg : Config} {g : List Byte} (h : cfg.syncByte ∉ g) (x : List Byte) :
    syncIndex cfg (g ++ x) = g.length + syncIndex cfg x := by
  induction g with
  | nil => simp
  | cons b bs ih =>
    simp only [List.mem_cons, not_or] at h
    have e : ¬ b = cfg.syncByte := fun e => h.1 e.symm
    simp only [List.cons_append, syncIndex, if_neg e, List.length_cons, ih h.2]
    omega

theorem syncIndex_append_of_lt {cfg : Config} {buf : List Byte} (h : syncIndex cfg buf < buf.length) (x : List Byte) :
    syncIndex cfg (buf ++ x) = syncIndex cfg buf := by
  induction buf with
  | nil => simp [syncIndex] at h
  | cons b bs ih =>
    simp only [List.cons_append, syncIndex] at *
    split
    · rfl
    · rename_i e
      rw [if_neg e, List.length_cons] at h
      rw [ih (by omega)]

/-! ### Frames -/

/-- The bytes of a frame, one by one. -/
theorem buildFrame_eq (cfg : Config) (id : Byte) (content : List Byte) :
    buildFrame cfg id content = cfg.syncByte :: BitVec.ofNat 8 (content.length + cfg.lenBias) :: id ::
      (content ++ [xorFold (cfg.syncByte :: BitVec.ofNat 8 (content.length + cfg.lenBias) :: id :: content)]) := rfl

@[simp] theorem buildFrame_length (cfg : Config) (id : Byte) (content : List Byte) :
    (buildFrame cfg id content).length = content.length + 4 := by
  simp [buildFrame_eq]

theorem encodeFrame_eq_ok {cfg : Config} {id : Byte} {content : List Byte} {f : Frame} :
    encodeFrame cfg id content = .ok f ↔
      id ∈ cfg.ids ∧ content.length ≤ cfg.maxContent ∧ f = buildFrame cfg id content := by
  unfold encodeFrame
  by_cases h : id ∈ cfg.ids
  · have : (cfg.kindOf? id).isNone = false := by
      cases hk : cfg.kindOf? id with
      | none => exact absurd h (Config.kindOf?_eq_none.1 hk)
      | some _ => rfl
    by_cases hl : cfg.maxContent < content.length
    · simp [this, hl]
    · simp [this, hl, h, Nat.le_of_not_lt hl, eq_comm]
  · simp [Config.kindOf?_eq_none.2 h, h]

theorem encodeFrame_eq_error {cfg : Config} {id : Byte} {content : List Byte} {e : EncodeError} :
    encodeFrame cfg id content = .error e ↔
      (id ∉ cfg.ids ∧ e = .unrecognizedId) ∨ (id ∈ cfg.ids ∧ cfg.maxContent < content.length ∧ e = .tooLong) := by
  unfold encodeFrame
  by_cases h : id ∈ cfg.ids
  · have : (cfg.kindOf? id).isNone = false := by
      cases hk : cfg.kindOf? id with
      | none => exact absurd h (Config.kindOf?_eq_none.1 hk)
      | some _ => rfl
    by_cases hl : cfg.maxContent < content.length <;> simp [this, hl, h, eq_comm]
  · simp [Config.kindOf?_eq_none.2 h, h, eq_comm]

/-- Every verdict of `DECODE`, by what stands at the sync byte. -/
theorem decodeFrame_elim {P : Verdict → Prop} {cfg : Config} {buf : List Byte}
    (short : buf.length < syncIndex cfg buf + 2 → P (.needMoreData (syncIndex cfg buf)))
    (badLength : ∀ len rest, buf.drop (syncIndex cfg buf) = cfg.syncByte :: len :: rest → len.toNat < cfg.lenBias →
      P (.checksumError (syncIndex cfg buf)))
    (cut : ∀ len rest, buf.drop (syncIndex cfg buf) = cfg.syncByte :: len :: rest → cfg.lenBias ≤ len.toNat →
      rest.length < len.toNat - cfg.lenBias + 2 → P (.needMoreData (syncIndex cfg buf)))
    (bad : ∀ len id content sum rest,
      buf.drop (syncIndex cfg buf) = cfg.syncByte :: len :: id :: (content ++ sum :: rest) →
      content.length + cfg.lenBias = len.toNat → xorFold (cfg.syncByte :: len :: id :: content) ≠ sum →
      P (.checksumError (syncIndex cfg buf)))
    (good : ∀ len id content sum rest,
      buf.drop (syncIndex cfg buf) = cfg.syncByte :: len :: id :: (content ++ sum :: rest) →
      content.length + cfg.lenBias = len.toNat → xorFold (cfg.syncByte :: len :: id :: content) = sum →
      P (.frame id content (syncIndex cfg buf + content.length + 4))) : P (decodeFrame cfg buf) := by
  have hlen : (buf.drop (syncIndex cfg buf)).length = buf.length - syncIndex cfg buf := List.length_drop
  have hle := syncIndex_le cfg buf
  unfold decodeFrame
  dsimp only
  match hd : buf.drop (syncIndex cfg buf) with
  | [] =>
    rw [hd, List.length_nil] at hlen
    exact short (by omega)
  | [_] =>
    rw [hd, List.length_singleton] at hlen
    exact short (by omega)
  | b :: len :: rest =>
    rw [hd] at hlen
    simp only [List.length_cons] at hlen
    obtain ⟨_, hr⟩ := drop_syncIndex (cfg := cfg) (buf := buf) (by omega)
    obtain rfl : b = cfg.syncByte := by rw [hd] at hr; exact (List.cons.inj hr).1
    dsimp only
    split
    · exact badLength len rest hd ‹_›
    · rename_i hb
      split
      · rename_i hs
        simp only [List.length_cons] at hs
        exact cut len rest hd (by omega) (by omega)
      · rename_i hs
        simp only [List.length_cons] at hs
        obtain ⟨id, tail, rfl⟩ : ∃ id tail, rest = id :: tail := by
          cases rest with
          | nil => simp at hs
          | cons a l => exact ⟨a, l, rfl⟩
        generalize hc : len.toNat - cfg.lenBias = c at *
        simp only [List.length_cons] at hs
        have htail : tail = tail.take c ++ tail.getD c 0#8 :: tail.drop (c + 1) := by
          have hl : c < tail.length := by omega
          conv_lhs => rw [← List.take_append_drop c tail, List.drop_eq_getElem_cons hl]
          rw [List.getD_eq_getElem?_getD, List.getElem?_eq_getElem hl, Option.getD_some]
        have hcl : (tail.take c).length = c := by simp; omega
        have hg : (cfg.syncByte :: len :: id :: tail).getD (c + 3) 0#8 = tail.getD c 0#8 := by simp [List.getD]
        have ht : (cfg.syncByte :: len :: id :: tail).take (c + 3) = cfg.syncByte :: len :: id :: tail.take c := by
          simp
        rw [hg, ht]
        have hcons : buf.drop (syncIndex cfg buf)
            = cfg.syncByte :: len :: id :: (tail.take c ++ tail.getD c 0#8 :: tail.drop (c + 1)) := by
          rw [hd, ← htail]
        split
        · exact bad len id _ _ _ hcons (by rw [hcl]; omega) ‹_›
        · rename_i hx
          have := good len id _ _ _ hcons (by rw [hcl]; omega) (by simpa using hx)
          rw [hcl] at this
          simpa using this

end Sys2Proof
end

