-- ==== Sys2Proof/Laws/State.lean ====
section
/-! SUPPORT. What every update of the state does to every field: one lemma per update and field, true by `rfl`, so that no
proof unfolds a record update; and what the updates leave of the table reads. -/

namespace Sys2Proof.Machine

variable (s : State)


/-! ### `State.notify` -/

@[simp] theorem State.notify_cfg (n : Notification) : (s.notify n).cfg = s.cfg := rfl
@[simp] theorem State.notify_eng (n : Notification) : (s.notify n).eng = s.eng := rfl
@[simp] theorem State.notify_nCh (n : Notification) : (s.notify n).nCh = s.nCh := rfl
@[simp] theorem State.notify_ackTimeout (n : Notification) : (s.notify n).ackTimeout = s.ackTimeout := rfl
@[simp] theorem State.notify_maxRetries (n : Notification) : (s.notify n).maxRetries = s.maxRetries := rfl
@[simp] theorem State.notify_xfault (n : Notification) : (s.notify n).xfault = s.xfault := rfl
@[simp] theorem State.notify_ch (n : Notification) : (s.notify n).ch = s.ch := rfl
@[simp] theorem State.notify_pa (n : Notification) : (s.notify n).pa = s.pa := rfl
@[simp] theorem State.notify_rxbuf (n : Notification) : (s.notify n).rxbuf = s.rxbuf := rfl
@[simp] theorem State.notify_rxPos (n : Notification) : (s.notify n).rxPos = s.rxPos := rfl
@[simp] theorem State.notify_tLast (n : Notification) : (s.notify n).tLast = s.tLast := rfl
@[simp] theorem State.notify_inp (n : Notification) : (s.notify n).inp = s.inp := rfl
@[simp] theorem State.notify_wire (n : Notification) : (s.notify n).wire = s.wire := rfl
@[simp] theorem State.notify_queue (n : Notification) : (s.notify n).queue = s.queue := rfl
@[simp] theorem State.notify_out (n : Notification) : (s.notify n).out = s.out ++ [.note n] := rfl
@[simp] theorem State.notify_result (n : Notification) : (s.notify n).result = s.result := rfl
@[simp] theorem State.notify_freeIdx (n : Notification) : (s.notify n).freeIdx = s.freeIdx := rfl

/-! ### `State.txWrite` -/

@[simp] theorem State.txWrite_cfg (f : Frame) : (s.txWrite f).cfg = s.cfg := rfl
@[simp] theorem State.txWrite_eng (f : Frame) : (s.txWrite f).eng = s.eng := rfl
@[simp] theorem State.txWrite_nCh (f : Frame) : (s.txWrite f).nCh = s.nCh := rfl
@[simp] theorem State.txWrite_ackTimeout (f : Frame) : (s.txWrite f).ackTimeout = s.ackTimeout := rfl
@[simp] theorem State.txWrite_maxRetries (f : Frame) : (s.txWrite f).maxRetries = s.maxRetries := rfl
@[simp] theorem State.txWrite_xfault (f : Frame) : (s.txWrite f).xfault = s.xfault := rfl
@[simp] theorem State.txWrite_ch (f : Frame) : (s.txWrite f).ch = s.ch := rfl
@[simp] theorem State.txWrite_pa (f : Frame) : (s.txWrite f).pa = s.pa := rfl
@[simp] theorem State.txWrite_rxbuf (f : Frame) : (s.txWrite f).rxbuf = s.rxbuf := rfl
@[simp] theorem State.txWrite_rxPos (f : Frame) : (s.txWrite f).rxPos = s.rxPos := rfl
@[simp] theorem State.txWrite_tLast (f : Frame) : (s.txWrite f).tLast = s.tLast := rfl
@[simp] theorem State.txWrite_inp (f : Frame) : (s.txWrite f).inp = { s.inp with txAnswers := s.inp.txAnswers.tail } := rfl
@[simp] theorem State.txWrite_wire (f : Frame) : (s.txWrite f).wire = s.wire := rfl
@[simp] theorem State.txWrite_queue (f : Frame) : (s.txWrite f).queue = s.queue := rfl
@[simp] theorem State.txWrite_out (f : Frame) : (s.txWrite f).out = s.out ++ [.tx f s.txAnswer] := rfl
@[simp] theorem State.txWrite_result (f : Frame) : (s.txWrite f).result = s.result := rfl
@[simp] theorem State.txWrite_freeIdx (f : Frame) : (s.txWrite f).freeIdx = s.freeIdx := rfl

/-! ### `State.ret` -/

@[simp] theorem State.ret_cfg (v : Value) : (s.ret v).cfg = s.cfg := rfl
@[simp] theorem State.ret_eng (v : Value) : (s.ret v).eng = s.eng := rfl
@[simp] theorem State.ret_nCh (v : Value) : (s.ret v).nCh = s.nCh := rfl
@[simp] theorem State.ret_ackTimeout (v : Value) : (s.ret v).ackTimeout = s.ackTimeout := rfl
@[simp] theorem State.ret_maxRetries (v : Value) : (s.ret v).maxRetries = s.maxRetries := rfl
@[simp] theorem State.ret_xfault (v : Value) : (s.ret v).xfault = s.xfault := rfl
@[simp] theorem State.ret_ch (v : Value) : (s.ret v).ch = s.ch := rfl
@[simp] theorem State.ret_pa (v : Value) : (s.ret v).pa = s.pa := rfl
@[simp] theorem State.ret_rxbuf (v : Value) : (s.ret v).rxbuf = s.rxbuf := rfl
@[simp] theorem State.ret_rxPos (v : Value) : (s.ret v).rxPos = s.rxPos := rfl
@[simp] theorem State.ret_tLast (v : Value) : (s.ret v).tLast = s.tLast := rfl
@[simp] theorem State.ret_inp (v : Value) : (s.ret v).inp = s.inp := rfl
@[simp] theorem State.ret_wire (v : Value) : (s.ret v).wire = s.wire := rfl
@[simp] theorem State.ret_queue (v : Value) : (s.ret v).queue = s.queue := rfl
@[simp] theorem State.ret_out (v : Value) : (s.ret v).out = s.out := rfl
@[simp] theorem State.ret_result (v : Value) : (s.ret v).result = some (.ok v) := rfl
@[simp] theorem State.ret_freeIdx (v : Value) : (s.ret v).freeIdx = s.freeIdx := rfl

/-! ### `State.raise` -/

@[simp] theorem State.raise_cfg (r : Result) : (s.raise r).cfg = s.cfg := rfl
@[simp] theorem State.raise_eng (r : Result) : (s.raise r).eng = s.eng := rfl
@[simp] theorem State.raise_nCh (r : Result) : (s.raise r).nCh = s.nCh := rfl
@[simp] theorem State.raise_ackTimeout (r : Result) : (s.raise r).ackTimeout = s.ackTimeout := rfl
@[simp] theorem State.raise_maxRetries (r : Result) : (s.raise r).maxRetries = s.maxRetries := rfl
@[simp] theorem State.raise_xfault (r : Result) : (s.raise r).xfault = s.xfault := rfl
@[simp] theorem State.raise_ch (r : Result) : (s.raise r).ch = s.ch := rfl
@[simp] theorem State.raise_pa (r : Result) : (s.raise r).pa = s.pa := rfl
@[simp] theorem State.raise_rxbuf (r : Result) : (s.raise r).rxbuf = s.rxbuf := rfl
@[simp] theorem State.raise_rxPos (r : Result) : (s.raise r).rxPos = s.rxPos := rfl
@[simp] theorem State.raise_tLast (r : Result) : (s.raise r).tLast = s.tLast := rfl
@[simp] theorem State.raise_inp (r : Result) : (s.raise r).inp = s.inp := rfl
@[simp] theorem State.raise_wire (r : Result) : (s.raise r).wire = s.wire := rfl
@[simp] theorem State.raise_queue (r : Result) : (s.raise r).queue = s.queue := rfl
@[simp] theorem State.raise_out (r : Result) : (s.raise r).out = s.out := rfl
@[simp] theorem State.raise_result (r : Result) : (s.raise r).result = some r := rfl
@[simp] theorem State.raise_freeIdx (r : Result) : (s.raise r).freeIdx = s.freeIdx := rfl

/-! ### `State.setSlot` -/

@[simp] theorem State.setSlot_cfg (c : Byte) (v : Channel) : (s.setSlot c v).cfg = s.cfg := rfl
@[simp] theorem State.setSlot_eng (c : Byte) (v : Channel) : (s.setSlot c v).eng = s.eng := rfl
@[simp] theorem State.setSlot_nCh (c : Byte) (v : Channel) : (s.setSlot c v).nCh = s.nCh := rfl
@[simp] theorem State.setSlot_ackTimeout (c : Byte) (v : Channel) : (s.setSlot c v).ackTimeout = s.ackTimeout := rfl
@[simp] theorem State.setSlot_maxRetries (c : Byte) (v : Channel) : (s.setSlot c v).maxRetries = s.maxRetries := rfl
@[simp] theorem State.setSlot_xfault (c : Byte) (v : Channel) : (s.setSlot c v).xfault = s.xfault := rfl
@[simp] theorem State.setSlot_ch (c : Byte) (v : Channel) : (s.setSlot c v).ch = s.ch.set c.toNat v := rfl
@[simp] theorem State.setSlot_pa (c : Byte) (v : Channel) : (s.setSlot c v).pa = s.pa := rfl
@[simp] theorem State.setSlot_rxbuf (c : Byte) (v : Channel) : (s.setSlot c v).rxbuf = s.rxbuf := rfl
@[simp] theorem State.setSlot_rxPos (c : Byte) (v : Channel) : (s.setSlot c v).rxPos = s.rxPos := rfl
@[simp] theorem State.setSlot_tLast (c : Byte) (v : Channel) : (s.setSlot c v).tLast = s.tLast := rfl
@[simp] theorem State.setSlot_inp (c : Byte) (v : Channel) : (s.setSlot c v).inp = s.inp := rfl
@[simp] theorem State.setSlot_wire (c : Byte) (v : Channel) : (s.setSlot c v).wire = s.wire := rfl
@[simp] theorem State.setSlot_queue (c : Byte) (v : Channel) : (s.setSlot c v).queue = s.queue := rfl
@[simp] theorem State.setSlot_out (c : Byte) (v : Channel) : (s.setSlot c v).out = s.out := rfl
@[simp] theorem State.setSlot_result (c : Byte) (v : Channel) : (s.setSlot c v).result = s.result := rfl
@[simp] theorem State.setSlot_freeIdx (c : Byte) (v : Channel) : (s.setSlot c v).freeIdx = s.freeIdx := rfl

/-! ### `State.setPend` -/

@[simp] theorem State.setPend_cfg (c : Byte) (p : Pending) : (s.setPend c p).cfg = s.cfg := rfl
@[simp] theorem State.setPend_eng (c : Byte) (p : Pending) : (s.setPend c p).eng = s.eng := rfl
@[simp] theorem State.setPend_nCh (c : Byte) (p : Pending) : (s.setPend c p).nCh = s.nCh := rfl
@[simp] theorem State.setPend_ackTimeout (c : Byte) (p : Pending) : (s.setPend c p).ackTimeout = s.ackTimeout := rfl
@[simp] theorem State.setPend_maxRetries (c : Byte) (p : Pending) : (s.setPend c p).maxRetries = s.maxRetries := rfl
@[simp] theorem State.setPend_xfault (c : Byte) (p : Pending) : (s.setPend c p).xfault = s.xfault := rfl
@[simp] theorem State.setPend_ch (c : Byte) (p : Pending) : (s.setPend c p).ch = s.ch := rfl
@[simp] theorem State.setPend_pa (c : Byte) (p : Pending) : (s.setPend c p).pa = s.pa.set c.toNat p := rfl
@[simp] theorem State.setPend_rxbuf (c : Byte) (p : Pending) : (s.setPend c p).rxbuf = s.rxbuf := rfl
@[simp] theorem State.setPend_rxPos (c : Byte) (p : Pending) : (s.setPend c p).rxPos = s.rxPos := rfl
@[simp] theorem State.setPend_tLast (c : Byte) (p : Pending) : (s.setPend c p).tLast = s.tLast := rfl
@[simp] theorem State.setPend_inp (c : Byte) (p : Pending) : (s.setPend c p).inp = s.inp := rfl
@[simp] theorem State.setPend_wire (c : Byte) (p : Pending) : (s.setPend c p).wire = s.wire := rfl
@[simp] theorem State.setPend_queue (c : Byte) (p : Pending) : (s.setPend c p).queue = s.queue := rfl
@[simp] theorem State.setPend_out (c : Byte) (p : Pending) : (s.setPend c p).out = s.out := rfl
@[simp] theorem State.setPend_result (c : Byte) (p : Pending) : (s.setPend c p).result = s.result := rfl
@[simp] theorem State.setPend_freeIdx (c : Byte) (p : Pending) : (s.setPend c p).freeIdx = s.freeIdx := rfl

/-! ### `State.rxDrop` -/

@[simp] theorem State.rxDrop_cfg (n : Nat) : (s.rxDrop n).cfg = s.cfg := rfl
@[simp] theorem State.rxDrop_eng (n : Nat) : (s.rxDrop n).eng = s.eng := rfl
@[simp] theorem State.rxDrop_nCh (n : Nat) : (s.rxDrop n).nCh = s.nCh := rfl
@[simp] theorem State.rxDrop_ackTimeout (n : Nat) : (s.rxDrop n).ackTimeout = s.ackTimeout := rfl
@[simp] theorem State.rxDrop_maxRetries (n : Nat) : (s.rxDrop n).maxRetries = s.maxRetries := rfl
@[simp] theorem State.rxDrop_xfault (n : Nat) : (s.rxDrop n).xfault = s.xfault := rfl
@[simp] theorem State.rxDrop_ch (n : Nat) : (s.rxDrop n).ch = s.ch := rfl
@[simp] theorem State.rxDrop_pa (n : Nat) : (s.rxDrop n).pa = s.pa := rfl
@[simp] theorem State.rxDrop_rxbuf (n : Nat) : (s.rxDrop n).rxbuf = s.rxbuf.drop n := rfl
@[simp] theorem State.rxDrop_rxPos (n : Nat) : (s.rxDrop n).rxPos = s.rxPos + BitVec.ofNat 64 n := rfl
@[simp] theorem State.rxDrop_tLast (n : Nat) : (s.rxDrop n).tLast = s.tLast := rfl
@[simp] theorem State.rxDrop_inp (n : Nat) : (s.rxDrop n).inp = s.inp := rfl
@[simp] theorem State.rxDrop_wire (n : Nat) : (s.rxDrop n).wire = s.wire := rfl
@[simp] theorem State.rxDrop_queue (n : Nat) : (s.rxDrop n).queue = s.queue := rfl
@[simp] theorem State.rxDrop_out (n : Nat) : (s.rxDrop n).out = s.out := rfl
@[simp] theorem State.rxDrop_result (n : Nat) : (s.rxDrop n).result = s.result := rfl
@[simp] theorem State.rxDrop_freeIdx (n : Nat) : (s.rxDrop n).freeIdx = s.freeIdx := rfl

/-! ### `State.rxAppend` -/

@[simp] theorem State.rxAppend_cfg (bs : List Byte) : (s.rxAppend bs).cfg = s.cfg := rfl
@[simp] theorem State.rxAppend_eng (bs : List Byte) : (s.rxAppend bs).eng = s.eng := rfl
@[simp] theorem State.rxAppend_nCh (bs : List Byte) : (s.rxAppend bs).nCh = s.nCh := rfl
@[simp] theorem State.rxAppend_ackTimeout (bs : List Byte) : (s.rxAppend bs).ackTimeout = s.ackTimeout := rfl
@[simp] theorem State.rxAppend_maxRetries (bs : List Byte) : (s.rxAppend bs).maxRetries = s.maxRetries := rfl
@[simp] theorem State.rxAppend_xfault (bs : List Byte) : (s.rxAppend bs).xfault = s.xfault := rfl
@[simp] theorem State.rxAppend_ch (bs : List Byte) : (s.rxAppend bs).ch = s.ch := rfl
@[simp] theorem State.rxAppend_pa (bs : List Byte) : (s.rxAppend bs).pa = s.pa := rfl
@[simp] theorem State.rxAppend_rxbuf (bs : List Byte) : (s.rxAppend bs).rxbuf = s.rxbuf ++ bs := rfl
@[simp] theorem State.rxAppend_rxPos (bs : List Byte) : (s.rxAppend bs).rxPos = s.rxPos := rfl
@[simp] theorem State.rxAppend_tLast (bs : List Byte) : (s.rxAppend bs).tLast = s.tLast := rfl
@[simp] theorem State.rxAppend_inp (bs : List Byte) : (s.rxAppend bs).inp = s.inp := rfl
@[simp] theorem State.rxAppend_wire (bs : List Byte) : (s.rxAppend bs).wire = s.wire := rfl
@[simp] theorem State.rxAppend_queue (bs : List Byte) : (s.rxAppend bs).queue = s.queue := rfl
@[simp] theorem State.rxAppend_out (bs : List Byte) : (s.rxAppend bs).out = s.out := rfl
@[simp] theorem State.rxAppend_result (bs : List Byte) : (s.rxAppend bs).result = s.result := rfl
@[simp] theorem State.rxAppend_freeIdx (bs : List Byte) : (s.rxAppend bs).freeIdx = s.freeIdx := rfl

/-! ### `State.sample` -/

@[simp] theorem State.sample_cfg : s.sample.cfg = s.cfg := rfl
@[simp] theorem State.sample_eng : s.sample.eng = s.eng := rfl
@[simp] theorem State.sample_nCh : s.sample.nCh = s.nCh := rfl
@[simp] theorem State.sample_ackTimeout : s.sample.ackTimeout = s.ackTimeout := rfl
@[simp] theorem State.sample_maxRetries : s.sample.maxRetries = s.maxRetries := rfl
@[simp] theorem State.sample_xfault : s.sample.xfault = s.xfault := rfl
@[simp] theorem State.sample_ch : s.sample.ch = s.ch := rfl
@[simp] theorem State.sample_pa : s.sample.pa = s.pa := rfl
@[simp] theorem State.sample_rxbuf : s.sample.rxbuf = s.rxbuf := rfl
@[simp] theorem State.sample_rxPos : s.sample.rxPos = s.rxPos := rfl
@[simp] theorem State.sample_tLast : s.sample.tLast = s.inp.now := rfl
@[simp] theorem State.sample_inp : s.sample.inp = s.inp := rfl
@[simp] theorem State.sample_wire : s.sample.wire = s.wire := rfl
@[simp] theorem State.sample_queue : s.sample.queue = s.queue := rfl
@[simp] theorem State.sample_out : s.sample.out = s.out := rfl
@[simp] theorem State.sample_result : s.sample.result = s.result := rfl
@[simp] theorem State.sample_freeIdx : s.sample.freeIdx = s.freeIdx := rfl

/-! ### `State.useFree` -/

@[simp] theorem State.useFree_cfg : s.useFree.cfg = s.cfg := rfl
@[simp] theorem State.useFree_eng : s.useFree.eng = s.eng := rfl
@[simp] theorem State.useFree_nCh : s.useFree.nCh = s.nCh := rfl
@[simp] theorem State.useFree_ackTimeout : s.useFree.ackTimeout = s.ackTimeout := rfl
@[simp] theorem State.useFree_maxRetries : s.useFree.maxRetries = s.maxRetries := rfl
@[simp] theorem State.useFree_xfault : s.useFree.xfault = s.xfault := rfl
@[simp] theorem State.useFree_ch : s.useFree.ch = s.ch := rfl
@[simp] theorem State.useFree_pa : s.useFree.pa = s.pa := rfl
@[simp] theorem State.useFree_rxbuf : s.useFree.rxbuf = s.rxbuf := rfl
@[simp] theorem State.useFree_rxPos : s.useFree.rxPos = s.rxPos := rfl
@[simp] theorem State.useFree_tLast : s.useFree.tLast = s.tLast := rfl
@[simp] theorem State.useFree_inp : s.useFree.inp = s.inp := rfl
@[simp] theorem State.useFree_wire : s.useFree.wire = s.wire := rfl
@[simp] theorem State.useFree_queue : s.useFree.queue = s.queue := rfl
@[simp] theorem State.useFree_out : s.useFree.out = s.out := rfl
@[simp] theorem State.useFree_result : s.useFree.result = s.result := rfl
@[simp] theorem State.useFree_freeIdx : s.useFree.freeIdx = s.freeIdx + 1 := rfl

/-! ### `State.openTransport` -/

@[simp] theorem State.openTransport_cfg : s.openTransport.cfg = s.cfg := rfl
@[simp] theorem State.openTransport_eng : s.openTransport.eng = s.eng := rfl
@[simp] theorem State.openTransport_nCh : s.openTransport.nCh = s.nCh := rfl
@[simp] theorem State.openTransport_ackTimeout : s.openTransport.ackTimeout = s.ackTimeout := rfl
@[simp] theorem State.openTransport_maxRetries : s.openTransport.maxRetries = s.maxRetries := rfl
@[simp] theorem State.openTransport_xfault : s.openTransport.xfault = s.xfault := rfl
@[simp] theorem State.openTransport_ch : s.openTransport.ch = s.ch := rfl
@[simp] theorem State.openTransport_pa : s.openTransport.pa = s.pa := rfl
@[simp] theorem State.openTransport_rxbuf : s.openTransport.rxbuf = s.rxbuf := rfl
@[simp] theorem State.openTransport_rxPos : s.openTransport.rxPos = s.rxPos := rfl
@[simp] theorem State.openTransport_tLast : s.openTransport.tLast = s.tLast := rfl
@[simp] theorem State.openTransport_inp : s.openTransport.inp = s.inp := rfl
@[simp] theorem State.openTransport_wire : s.openTransport.wire = s.wire := rfl
@[simp] theorem State.openTransport_queue : s.openTransport.queue = s.queue := rfl
@[simp] theorem State.openTransport_out : s.openTransport.out = s.out ++ [.transportOpen s.inp.openOk] := rfl
@[simp] theorem State.openTransport_result : s.openTransport.result = s.result := rfl
@[simp] theorem State.openTransport_freeIdx : s.openTransport.freeIdx = s.freeIdx := rfl

/-! ### `State.engineStop` -/

@[simp] theorem State.engineStop_cfg : s.engineStop.cfg = s.cfg := rfl
@[simp] theorem State.engineStop_eng : s.engineStop.eng = .closed := rfl
@[simp] theorem State.engineStop_nCh : s.engineStop.nCh = s.nCh := rfl
@[simp] theorem State.engineStop_ackTimeout : s.engineStop.ackTimeout = s.ackTimeout := rfl
@[simp] theorem State.engineStop_maxRetries : s.engineStop.maxRetries = s.maxRetries := rfl
@[simp] theorem State.engineStop_xfault : s.engineStop.xfault = s.xfault := rfl
@[simp] theorem State.engineStop_ch : s.engineStop.ch = s.ch := rfl
@[simp] theorem State.engineStop_pa : s.engineStop.pa = s.pa := rfl
@[simp] theorem State.engineStop_rxbuf : s.engineStop.rxbuf = [] := rfl
@[simp] theorem State.engineStop_rxPos : s.engineStop.rxPos = s.rxPos := rfl
@[simp] theorem State.engineStop_tLast : s.engineStop.tLast = s.tLast := rfl
@[simp] theorem State.engineStop_inp : s.engineStop.inp = s.inp := rfl
@[simp] theorem State.engineStop_wire : s.engineStop.wire = s.wire := rfl
@[simp] theorem State.engineStop_queue : s.engineStop.queue = s.queue := rfl
@[simp] theorem State.engineStop_out : s.engineStop.out = s.out ++ [.transportClose] := rfl
@[simp] theorem State.engineStop_result : s.engineStop.result = s.result := rfl
@[simp] theorem State.engineStop_freeIdx : s.engineStop.freeIdx = s.freeIdx := rfl

/-! ### `State.deviceOpen` -/

@[simp] theorem State.deviceOpen_cfg (n : BitVec 9) (t : Time) (r : Byte) : (s.deviceOpen n t r).cfg = s.cfg := rfl
@[simp] theorem State.deviceOpen_eng (n : BitVec 9) (t : Time) (r : Byte) : (s.deviceOpen n t r).eng = .opened := rfl
@[simp] theorem State.deviceOpen_nCh (n : BitVec 9) (t : Time) (r : Byte) : (s.deviceOpen n t r).nCh = n := rfl
@[simp] theorem State.deviceOpen_ackTimeout (n : BitVec 9) (t : Time) (r : Byte) : (s.deviceOpen n t r).ackTimeout = t := rfl
@[simp] theorem State.deviceOpen_maxRetries (n : BitVec 9) (t : Time) (r : Byte) : (s.deviceOpen n t r).maxRetries = r := rfl
@[simp] theorem State.deviceOpen_xfault (n : BitVec 9) (t : Time) (r : Byte) : (s.deviceOpen n t r).xfault = false := rfl
@[simp] theorem State.deviceOpen_ch (n : BitVec 9) (t : Time) (r : Byte) : (s.deviceOpen n t r).ch = List.replicate n.toNat Channel.fresh := rfl
@[simp] theorem State.deviceOpen_pa (n : BitVec 9) (t : Time) (r : Byte) : (s.deviceOpen n t r).pa = List.replicate n.toNat Pending.fresh := rfl
@[simp] theorem State.deviceOpen_rxbuf (n : BitVec 9) (t : Time) (r : Byte) : (s.deviceOpen n t r).rxbuf = [] := rfl
@[simp] theorem State.deviceOpen_rxPos (n : BitVec 9) (t : Time) (r : Byte) : (s.deviceOpen n t r).rxPos = 0#64 := rfl
@[simp] theorem State.deviceOpen_tLast (n : BitVec 9) (t : Time) (r : Byte) : (s.deviceOpen n t r).tLast = s.tLast := rfl
@[simp] theorem State.deviceOpen_inp (n : BitVec 9) (t : Time) (r : Byte) : (s.deviceOpen n t r).inp = s.inp := rfl
@[simp] theorem State.deviceOpen_wire (n : BitVec 9) (t : Time) (r : Byte) : (s.deviceOpen n t r).wire = s.wire := rfl
@[simp] theorem State.deviceOpen_queue (n : BitVec 9) (t : Time) (r : Byte) : (s.deviceOpen n t r).queue = s.queue := rfl
@[simp] theorem State.deviceOpen_out (n : BitVec 9) (t : Time) (r : Byte) : (s.deviceOpen n t r).out = s.out := rfl
@[simp] theorem State.deviceOpen_result (n : BitVec 9) (t : Time) (r : Byte) : (s.deviceOpen n t r).result = s.result := rfl
@[simp] theorem State.deviceOpen_freeIdx (n : BitVec 9) (t : Time) (r : Byte) : (s.deviceOpen n t r).freeIdx = s.freeIdx := rfl

/-! ### `State.resolve` -/

@[simp] theorem State.resolve_cfg (c : Byte) (p : Pending) (o : AckOutcome) : (s.resolve c p o).cfg = s.cfg := rfl
@[simp] theorem State.resolve_eng (c : Byte) (p : Pending) (o : AckOutcome) : (s.resolve c p o).eng = s.eng := rfl
@[simp] theorem State.resolve_nCh (c : Byte) (p : Pending) (o : AckOutcome) : (s.resolve c p o).nCh = s.nCh := rfl
@[simp] theorem State.resolve_ackTimeout (c : Byte) (p : Pending) (o : AckOutcome) : (s.resolve c p o).ackTimeout = s.ackTimeout := rfl
@[simp] theorem State.resolve_maxRetries (c : Byte) (p : Pending) (o : AckOutcome) : (s.resolve c p o).maxRetries = s.maxRetries := rfl
@[simp] theorem State.resolve_xfault (c : Byte) (p : Pending) (o : AckOutcome) : (s.resolve c p o).xfault = s.xfault := rfl
@[simp] theorem State.resolve_ch (c : Byte) (p : Pending) (o : AckOutcome) : (s.resolve c p o).ch = s.ch := rfl
@[simp] theorem State.resolve_pa (c : Byte) (p : Pending) (o : AckOutcome) : (s.resolve c p o).pa = s.pa.set c.toNat { p with valid := false } := rfl
@[simp] theorem State.resolve_rxbuf (c : Byte) (p : Pending) (o : AckOutcome) : (s.resolve c p o).rxbuf = s.rxbuf := rfl
@[simp] theorem State.resolve_rxPos (c : Byte) (p : Pending) (o : AckOutcome) : (s.resolve c p o).rxPos = s.rxPos := rfl
@[simp] theorem State.resolve_tLast (c : Byte) (p : Pending) (o : AckOutcome) : (s.resolve c p o).tLast = s.tLast := rfl
@[simp] theorem State.resolve_inp (c : Byte) (p : Pending) (o : AckOutcome) : (s.resolve c p o).inp = s.inp := rfl
@[simp] theorem State.resolve_wire (c : Byte) (p : Pending) (o : AckOutcome) : (s.resolve c p o).wire = s.wire := rfl
@[simp] theorem State.resolve_queue (c : Byte) (p : Pending) (o : AckOutcome) : (s.resolve c p o).queue = s.queue := rfl
@[simp] theorem State.resolve_out (c : Byte) (p : Pending) (o : AckOutcome) : (s.resolve c p o).out = s.out ++ [.note (.ackResolved c o)] := rfl
@[simp] theorem State.resolve_result (c : Byte) (p : Pending) (o : AckOutcome) : (s.resolve c p o).result = s.result := rfl
@[simp] theorem State.resolve_freeIdx (c : Byte) (p : Pending) (o : AckOutcome) : (s.resolve c p o).freeIdx = s.freeIdx := rfl

/-! ### `State.warn` -/

@[simp] theorem State.warn_cfg (w : Warning) : (s.warn w).cfg = s.cfg := rfl
@[simp] theorem State.warn_eng (w : Warning) : (s.warn w).eng = s.eng := rfl
@[simp] theorem State.warn_nCh (w : Warning) : (s.warn w).nCh = s.nCh := rfl
@[simp] theorem State.warn_ackTimeout (w : Warning) : (s.warn w).ackTimeout = s.ackTimeout := rfl
@[simp] theorem State.warn_maxRetries (w : Warning) : (s.warn w).maxRetries = s.maxRetries := rfl
@[simp] theorem State.warn_xfault (w : Warning) : (s.warn w).xfault = s.xfault := rfl
@[simp] theorem State.warn_ch (w : Warning) : (s.warn w).ch = s.ch := rfl
@[simp] theorem State.warn_pa (w : Warning) : (s.warn w).pa = s.pa := rfl
@[simp] theorem State.warn_rxbuf (w : Warning) : (s.warn w).rxbuf = s.rxbuf := rfl
@[simp] theorem State.warn_rxPos (w : Warning) : (s.warn w).rxPos = s.rxPos := rfl
@[simp] theorem State.warn_tLast (w : Warning) : (s.warn w).tLast = s.tLast := rfl
@[simp] theorem State.warn_inp (w : Warning) : (s.warn w).inp = s.inp := rfl
@[simp] theorem State.warn_wire (w : Warning) : (s.warn w).wire = s.wire := rfl
@[simp] theorem State.warn_queue (w : Warning) : (s.warn w).queue = s.queue := rfl
@[simp] theorem State.warn_out (w : Warning) : (s.warn w).out = s.out ++ [.note (.warning w)] := rfl
@[simp] theorem State.warn_result (w : Warning) : (s.warn w).result = s.result := rfl
@[simp] theorem State.warn_freeIdx (w : Warning) : (s.warn w).freeIdx = s.freeIdx := rfl

/-! ### `State.drop` -/

@[simp] theorem State.drop_cfg (r : DropReason) : (s.drop r).cfg = s.cfg := rfl
@[simp] theorem State.drop_eng (r : DropReason) : (s.drop r).eng = s.eng := rfl
@[simp] theorem State.drop_nCh (r : DropReason) : (s.drop r).nCh = s.nCh := rfl
@[simp] theorem State.drop_ackTimeout (r : DropReason) : (s.drop r).ackTimeout = s.ackTimeout := rfl
@[simp] theorem State.drop_maxRetries (r : DropReason) : (s.drop r).maxRetries = s.maxRetries := rfl
@[simp] theorem State.drop_xfault (r : DropReason) : (s.drop r).xfault = s.xfault := rfl
@[simp] theorem State.drop_ch (r : DropReason) : (s.drop r).ch = s.ch := rfl
@[simp] theorem State.drop_pa (r : DropReason) : (s.drop r).pa = s.pa := rfl
@[simp] theorem State.drop_rxbuf (r : DropReason) : (s.drop r).rxbuf = s.rxbuf := rfl
@[simp] theorem State.drop_rxPos (r : DropReason) : (s.drop r).rxPos = s.rxPos := rfl
@[simp] theorem State.drop_tLast (r : DropReason) : (s.drop r).tLast = s.tLast := rfl
@[simp] theorem State.drop_inp (r : DropReason) : (s.drop r).inp = s.inp := rfl
@[simp] theorem State.drop_wire (r : DropReason) : (s.drop r).wire = s.wire := rfl
@[simp] theorem State.drop_queue (r : DropReason) : (s.drop r).queue = s.queue := rfl
@[simp] theorem State.drop_out (r : DropReason) : (s.drop r).out = s.out := rfl
@[simp] theorem State.drop_result (r : DropReason) : (s.drop r).result = some (.dropped r) := rfl
@[simp] theorem State.drop_freeIdx (r : DropReason) : (s.drop r).freeIdx = s.freeIdx := rfl

/-! ### `State.feed` -/

@[simp] theorem State.feed_cfg (bytes : List Byte) : (s.feed bytes).cfg = s.cfg := rfl
@[simp] theorem State.feed_eng (bytes : List Byte) : (s.feed bytes).eng = s.eng := rfl
@[simp] theorem State.feed_nCh (bytes : List Byte) : (s.feed bytes).nCh = s.nCh := rfl
@[simp] theorem State.feed_ackTimeout (bytes : List Byte) : (s.feed bytes).ackTimeout = s.ackTimeout := rfl
@[simp] theorem State.feed_maxRetries (bytes : List Byte) : (s.feed bytes).maxRetries = s.maxRetries := rfl
@[simp] theorem State.feed_xfault (bytes : List Byte) : (s.feed bytes).xfault = s.xfault := rfl
@[simp] theorem State.feed_ch (bytes : List Byte) : (s.feed bytes).ch = s.ch := rfl
@[simp] theorem State.feed_pa (bytes : List Byte) : (s.feed bytes).pa = s.pa := rfl
@[simp] theorem State.feed_rxbuf (bytes : List Byte) : (s.feed bytes).rxbuf = s.rxbuf := rfl
@[simp] theorem State.feed_rxPos (bytes : List Byte) : (s.feed bytes).rxPos = s.rxPos := rfl
@[simp] theorem State.feed_tLast (bytes : List Byte) : (s.feed bytes).tLast = s.tLast := rfl
@[simp] theorem State.feed_inp (bytes : List Byte) : (s.feed bytes).inp = { s.inp with read := .upTo bytes.length } := rfl
@[simp] theorem State.feed_wire (bytes : List Byte) : (s.feed bytes).wire = bytes ++ s.wire := rfl
@[simp] theorem State.feed_queue (bytes : List Byte) : (s.feed bytes).queue = s.queue := rfl
@[simp] theorem State.feed_out (bytes : List Byte) : (s.feed bytes).out = s.out := rfl
@[simp] theorem State.feed_result (bytes : List Byte) : (s.feed bytes).result = s.result := rfl
@[simp] theorem State.feed_freeIdx (bytes : List Byte) : (s.feed bytes).freeIdx = s.freeIdx := rfl

/-! ### `State.present` -/

@[simp] theorem State.present_cfg (p : Presented) (rest : List Presented) : (s.present p rest).cfg = s.cfg := rfl
@[simp] theorem State.present_eng (p : Presented) (rest : List Presented) : (s.present p rest).eng = s.eng := rfl
@[simp] theorem State.present_nCh (p : Presented) (rest : List Presented) : (s.present p rest).nCh = s.nCh := rfl
@[simp] theorem State.present_ackTimeout (p : Presented) (rest : List Presented) : (s.present p rest).ackTimeout = s.ackTimeout := rfl
@[simp] theorem State.present_maxRetries (p : Presented) (rest : List Presented) : (s.present p rest).maxRetries = s.maxRetries := rfl
@[simp] theorem State.present_xfault (p : Presented) (rest : List Presented) : (s.present p rest).xfault = s.xfault := rfl
@[simp] theorem State.present_ch (p : Presented) (rest : List Presented) : (s.present p rest).ch = s.ch := rfl
@[simp] theorem State.present_pa (p : Presented) (rest : List Presented) : (s.present p rest).pa = s.pa := rfl
@[simp] theorem State.present_rxbuf (p : Presented) (rest : List Presented) : (s.present p rest).rxbuf = s.rxbuf := rfl
@[simp] theorem State.present_rxPos (p : Presented) (rest : List Presented) : (s.present p rest).rxPos = s.rxPos := rfl
@[simp] theorem State.present_tLast (p : Presented) (rest : List Presented) : (s.present p rest).tLast = s.tLast := rfl
@[simp] theorem State.present_inp (p : Presented) (rest : List Presented) : (s.present p rest).inp = p.inputs := rfl
@[simp] theorem State.present_wire (p : Presented) (rest : List Presented) : (s.present p rest).wire = s.wire ++ p.arrives := rfl
@[simp] theorem State.present_queue (p : Presented) (rest : List Presented) : (s.present p rest).queue = rest := rfl
@[simp] theorem State.present_out (p : Presented) (rest : List Presented) : (s.present p rest).out = s.out := rfl
@[simp] theorem State.present_result (p : Presented) (rest : List Presented) : (s.present p rest).result = s.result := rfl
@[simp] theorem State.present_freeIdx (p : Presented) (rest : List Presented) : (s.present p rest).freeIdx = s.freeIdx := rfl

/-! ### Table reads through updates that leave the tables -/

@[simp] theorem State.notify_slot? (n : Notification) (d : Byte) : (s.notify n).slot? d = s.slot? d := rfl
@[simp] theorem State.notify_inFlight? (n : Notification) (d : Byte) : (s.notify n).inFlight? d = s.inFlight? d := rfl
@[simp] theorem State.notify_channels (n : Notification) : (s.notify n).channels = s.channels := rfl
@[simp] theorem State.notify_txAnswer (n : Notification) : (s.notify n).txAnswer = s.txAnswer := rfl
@[simp] theorem State.txWrite_slot? (f : Frame) (d : Byte) : (s.txWrite f).slot? d = s.slot? d := rfl
@[simp] theorem State.txWrite_inFlight? (f : Frame) (d : Byte) : (s.txWrite f).inFlight? d = s.inFlight? d := rfl
@[simp] theorem State.txWrite_channels (f : Frame) : (s.txWrite f).channels = s.channels := rfl
@[simp] theorem State.ret_slot? (v : Value) (d : Byte) : (s.ret v).slot? d = s.slot? d := rfl
@[simp] theorem State.ret_inFlight? (v : Value) (d : Byte) : (s.ret v).inFlight? d = s.inFlight? d := rfl
@[simp] theorem State.ret_channels (v : Value) : (s.ret v).channels = s.channels := rfl
@[simp] theorem State.ret_txAnswer (v : Value) : (s.ret v).txAnswer = s.txAnswer := rfl
@[simp] theorem State.raise_slot? (r : Result) (d : Byte) : (s.raise r).slot? d = s.slot? d := rfl
@[simp] theorem State.raise_inFlight? (r : Result) (d : Byte) : (s.raise r).inFlight? d = s.inFlight? d := rfl
@[simp] theorem State.raise_channels (r : Result) : (s.raise r).channels = s.channels := rfl
@[simp] theorem State.raise_txAnswer (r : Result) : (s.raise r).txAnswer = s.txAnswer := rfl
@[simp] theorem State.setSlot_inFlight? (c : Byte) (v : Channel) (d : Byte) : (s.setSlot c v).inFlight? d = s.inFlight? d := rfl
@[simp] theorem State.setSlot_channels (c : Byte) (v : Channel) : (s.setSlot c v).channels = s.channels := rfl
@[simp] theorem State.setSlot_txAnswer (c : Byte) (v : Channel) : (s.setSlot c v).txAnswer = s.txAnswer := rfl
@[simp] theorem State.setPend_slot? (c : Byte) (p : Pending) (d : Byte) : (s.setPend c p).slot? d = s.slot? d := rfl
@[simp] theorem State.setPend_channels (c : Byte) (p : Pending) : (s.setPend c p).channels = s.channels := rfl
@[simp] theorem State.setPend_txAnswer (c : Byte) (p : Pending) : (s.setPend c p).txAnswer = s.txAnswer := rfl
@[simp] theorem State.rxDrop_slot? (n : Nat) (d : Byte) : (s.rxDrop n).slot? d = s.slot? d := rfl
@[simp] theorem State.rxDrop_inFlight? (n : Nat) (d : Byte) : (s.rxDrop n).inFlight? d = s.inFlight? d := rfl
@[simp] theorem State.rxDrop_channels (n : Nat) : (s.rxDrop n).channels = s.channels := rfl
@[simp] theorem State.rxDrop_txAnswer (n : Nat) : (s.rxDrop n).txAnswer = s.txAnswer := rfl
@[simp] theorem State.rxAppend_slot? (bs : List Byte) (d : Byte) : (s.rxAppend bs).slot? d = s.slot? d := rfl
@[simp] theorem State.rxAppend_inFlight? (bs : List Byte) (d : Byte) : (s.rxAppend bs).inFlight? d = s.inFlight? d := rfl
@[simp] theorem State.rxAppend_channels (bs : List Byte) : (s.rxAppend bs).channels = s.channels := rfl
@[simp] theorem State.rxAppend_txAnswer (bs : List Byte) : (s.rxAppend bs).txAnswer = s.txAnswer := rfl
@[simp] theorem State.sample_slot? (d : Byte) : s.sample.slot? d = s.slot? d := rfl
@[simp] theorem State.sample_inFlight? (d : Byte) : s.sample.inFlight? d = s.inFlight? d := rfl
@[simp] theorem State.sample_channels : s.sample.channels = s.channels := rfl
@[simp] theorem State.sample_txAnswer : s.sample.txAnswer = s.txAnswer := rfl
@[simp] theorem State.useFree_slot? (d : Byte) : s.useFree.slot? d = s.slot? d := rfl
@[simp] theorem State.useFree_inFlight? (d : Byte) : s.useFree.inFlight? d = s.inFlight? d := rfl
@[simp] theorem State.useFree_channels : s.useFree.channels = s.channels := rfl
@[simp] theorem State.useFree_txAnswer : s.useFree.txAnswer = s.txAnswer := rfl
@[simp] theorem State.openTransport_slot? (d : Byte) : s.openTransport.slot? d = s.slot? d := rfl
@[simp] theorem State.openTransport_inFlight? (d : Byte) : s.openTransport.inFlight? d = s.inFlight? d := rfl
@[simp] theorem State.openTransport_channels : s.openTransport.channels = s.channels := rfl
@[simp] theorem State.openTransport_txAnswer : s.openTransport.txAnswer = s.txAnswer := rfl
@[simp] theorem State.engineStop_slot? (d : Byte) : s.engineStop.slot? d = s.slot? d := rfl
@[simp] theorem State.engineStop_inFlight? (d : Byte) : s.engineStop.inFlight? d = s.inFlight? d := rfl
@[simp] theorem State.engineStop_channels : s.engineStop.channels = s.channels := rfl
@[simp] theorem State.engineStop_txAnswer : s.engineStop.txAnswer = s.txAnswer := rfl
@[simp] theorem State.resolve_slot? (c : Byte) (p : Pending) (o : AckOutcome) (d : Byte) : (s.resolve c p o).slot? d = s.slot? d := rfl
@[simp] theorem State.resolve_channels (c : Byte) (p : Pending) (o : AckOutcome) : (s.resolve c p o).channels = s.channels := rfl
@[simp] theorem State.resolve_txAnswer (c : Byte) (p : Pending) (o : AckOutcome) : (s.resolve c p o).txAnswer = s.txAnswer := rfl
@[simp] theorem State.warn_slot? (w : Warning) (d : Byte) : (s.warn w).slot? d = s.slot? d := rfl
@[simp] theorem State.warn_inFlight? (w : Warning) (d : Byte) : (s.warn w).inFlight? d = s.inFlight? d := rfl
@[simp] theorem State.warn_channels (w : Warning) : (s.warn w).channels = s.channels := rfl
@[simp] theorem State.warn_txAnswer (w : Warning) : (s.warn w).txAnswer = s.txAnswer := rfl
@[simp] theorem State.drop_slot? (r : DropReason) (d : Byte) : (s.drop r).slot? d = s.slot? d := rfl
@[simp] theorem State.drop_inFlight? (r : DropReason) (d : Byte) : (s.drop r).inFlight? d = s.inFlight? d := rfl
@[simp] theorem State.drop_channels (r : DropReason) : (s.drop r).channels = s.channels := rfl
@[simp] theorem State.drop_txAnswer (r : DropReason) : (s.drop r).txAnswer = s.txAnswer := rfl
@[simp] theorem State.feed_slot? (bytes : List Byte) (d : Byte) : (s.feed bytes).slot? d = s.slot? d := rfl
@[simp] theorem State.feed_inFlight? (bytes : List Byte) (d : Byte) : (s.feed bytes).inFlight? d = s.inFlight? d := rfl
@[simp] theorem State.feed_channels (bytes : List Byte) : (s.feed bytes).channels = s.channels := rfl
@[simp] theorem State.present_slot? (p : Presented) (rest : List Presented) (d : Byte) : (s.present p rest).slot? d = s.slot? d := rfl
@[simp] theorem State.present_inFlight? (p : Presented) (rest : List Presented) (d : Byte) : (s.present p rest).inFlight? d = s.inFlight? d := rfl
@[simp] theorem State.present_channels (p : Presented) (rest : List Presented) : (s.present p rest).channels = s.channels := rfl

end Sys2Proof.Machine
end

