-- ==== Sys2Proof/Laws/Ops.lean ====
section
/-! SUPPORT. One lemma per shared operation that says everything it can do: a property that holds in each of its cases
holds of what the operation answers (`…_elim`), or when it answers a next state and which (`…_next`). Proofs cite these
and never unfold the operation. -/

namespace Sys2Proof.Machine

/-! ### Acceptance -/

theorem accept_next {s t : State} {k : State → State} :
    accept s k = .next t ↔ s.Ready ∧ t = k s.sample := by
  unfold accept State.Ready
  cases s.eng
  · simp
  · by_cases h : s.inp.now.toNat < s.tLast.toNat
    · simp [h]
    · simp [h, Nat.le_of_not_lt h, eq_comm]

theorem accept_ready {s : State} (h : s.Ready) (k : State → State) : accept s k = .next (k s.sample) :=
  accept_next.2 ⟨h, rfl⟩

theorem acceptClosed_next {s t : State} {k : State → State} :
    acceptClosed s k = .next t ↔ s.eng = .closed ∧ s.tLast.toNat ≤ s.inp.now.toNat ∧ t = k s.sample := by
  unfold acceptClosed
  cases s.eng
  · by_cases h : s.inp.now.toNat < s.tLast.toNat
    · simp [h]
    · simp [h, Nat.le_of_not_lt h, eq_comm]
  · simp

theorem inRange_next {ok : Bool} {a : Answer} {t : State} : inRange ok a = .next t ↔ ok = true ∧ a = .next t := by
  unfold inRange
  cases ok <;> simp

@[simp] theorem inRange_true (a : Answer) : inRange true a = a := rfl

@[simp] theorem inRange_false (a : Answer) : inRange false a = .refused .operandRange := rfl

/-! ### Table reads and writes -/

theorem slot?_eq_some {s : State} {c : Byte} {v : Channel} :
    s.slot? c = some v ↔ c.toNat < s.nCh.toNat ∧ s.ch[c.toNat]? = some v := by
  unfold State.slot?
  split <;> simp_all

theorem inFlight?_eq_some {s : State} {c : Byte} {p : Pending} :
    s.inFlight? c = some p ↔ c.toNat < s.nCh.toNat ∧ s.pa[c.toNat]? = some p ∧ p.valid = true := by
  unfold State.inFlight? State.pend?
  split <;> simp_all [Option.filter_eq_some_iff]

theorem inFlight?_eq_none {s : State} {c : Byte} :
    s.inFlight? c = none ↔ ∀ p, c.toNat < s.nCh.toNat → s.pa[c.toNat]? = some p → p.valid = false := by
  unfold State.inFlight? State.pend?
  split <;> simp_all [Option.filter_eq_none_iff]

theorem toNat_ne {c d : Byte} (h : c ≠ d) : c.toNat ≠ d.toNat := fun e => h (BitVec.eq_of_toNat_eq e)

theorem setSlot_slot?_same {s : State} {c : Byte} {v w : Channel} (h : s.slot? c = some w) :
    (s.setSlot c v).slot? c = some v := by
  obtain ⟨hc, hg⟩ := slot?_eq_some.1 h
  refine slot?_eq_some.2 ⟨hc, ?_⟩
  have := (List.getElem?_eq_some_iff.1 hg).1
  simp [this]

theorem setSlot_slot?_ne (s : State) {c d : Byte} (v : Channel) (h : c ≠ d) :
    (s.setSlot c v).slot? d = s.slot? d := by
  simp [State.slot?, List.getElem?_set_ne (toNat_ne h)]

theorem setPend_inFlight?_ne (s : State) {c d : Byte} (p : Pending) (h : c ≠ d) :
    (s.setPend c p).inFlight? d = s.inFlight? d := by
  simp [State.inFlight?, State.pend?, List.getElem?_set_ne (toNat_ne h)]

theorem setPend_inFlight?_valid {s : State} {c : Byte} {p q : Pending} (hc : c.toNat < s.nCh.toNat)
    (hq : s.pa[c.toNat]? = some q) (hp : p.valid = true) : (s.setPend c p).inFlight? c = some p := by
  refine inFlight?_eq_some.2 ⟨hc, ?_, hp⟩
  have := (List.getElem?_eq_some_iff.1 hq).1
  simp [this]

theorem setPend_inFlight?_invalid (s : State) (c : Byte) {p : Pending} (hp : p.valid = false) :
    (s.setPend c p).inFlight? c = none := by
  refine inFlight?_eq_none.2 fun q _ hq => ?_
  obtain ⟨hl, hg⟩ := List.getElem?_eq_some_iff.1 hq
  simp at hg
  rwa [← hg]

/-- A resolved send is not in flight. -/
theorem resolve_inFlight?_same (s : State) (c : Byte) (p : Pending) (o : AckOutcome) :
    (s.resolve c p o).inFlight? c = none := setPend_inFlight?_invalid s c rfl

theorem resolve_inFlight?_ne (s : State) {c d : Byte} (p : Pending) (o : AckOutcome) (h : c ≠ d) :
    (s.resolve c p o).inFlight? d = s.inFlight? d := setPend_inFlight?_ne s _ h

/-! ### The steps host operations share -/

theorem withSlot_elim {P : State → Prop} {s : State} {c : Byte} {k : Channel → State}
    (unknown : s.slot? c = none → P (s.raise (.unknownChannel c)))
    (known : ∀ v, s.slot? c = some v → P (k v)) : P (withSlot s c k) := by
  unfold withSlot
  split
  · exact unknown ‹_›
  · exact known _ ‹_›

theorem inState_elim {P : State → Prop} {s : State} {c : Byte} {v : Channel} {sources : List ChState} {k : State}
    (good : v.state ∈ sources → P k) (bad : v.state ∉ sources → P (s.raise (.invalidState c v.state))) :
    P (inState s c v sources k) := by
  unfold inState
  split
  · exact good ‹_›
  · exact bad ‹_›

/-- What setting the fault bit of a target does. -/
theorem setXfault_elim {P : State → Prop} {s : State} {target : Option Byte}
    (engine : target = none → P { s with xfault := true })
    (missing : ∀ c, target = some c → s.slot? c = none → P s)
    (slot : ∀ c v, target = some c → s.slot? c = some v → P (s.setSlot c { v with xfault := true })) :
    P (s.setXfault target) := by
  unfold State.setXfault
  split
  · exact engine rfl
  · split
    · exact missing _ rfl ‹_›
    · exact slot _ _ rfl ‹_›

/-- What a transport failure does: the fault bit, then the notification. -/
theorem transportFault_elim {P : State → Prop} {s : State} {target : Option Byte}
    (engine : target = none → P (({ s with xfault := true } : State).notify (.transportFail none)))
    (missing : ∀ c, target = some c → s.slot? c = none → P (s.notify (.transportFail (some c))))
    (slot : ∀ c v, target = some c → s.slot? c = some v →
      P ((s.setSlot c { v with xfault := true }).notify (.transportFail (some c)))) : P (s.transportFault target) := by
  refine setXfault_elim (P := fun t => P (t.notify (.transportFail target))) ?_ ?_ ?_
  · rintro rfl
    exact engine rfl
  · rintro c rfl h
    exact missing c rfl h
  · rintro c v rfl h
    exact slot c v rfl h

/-- The fault bit of a channel that has a slot, and the notification. -/
theorem transportFault_slot {s : State} {c : Byte} {v : Channel} (h : s.slot? c = some v) :
    s.transportFault (some c) = (s.setSlot c { v with xfault := true }).notify (.transportFail (some c)) := by
  simp [State.transportFault, State.setXfault, h]

theorem transportFault_engine (s : State) :
    s.transportFault none = ({ s with xfault := true } : State).notify (.transportFail none) := rfl

theorem emit_elim {P : State → Prop} {s : State} {target : Option Byte} {m : Message} {k : State → Frame → State}
    (refused : ∀ e, encodeMsg s.cfg m = .error e → P (s.raise (.encoding e)))
    (accepted : ∀ f, encodeMsg s.cfg m = .ok f → s.txAnswer = true → P (k (s.txWrite f) f))
    (failed : ∀ f, encodeMsg s.cfg m = .ok f → s.txAnswer = false →
      P (((s.txWrite f).transportFault target).raise (.transport target))) : P (emit s target m k) := by
  unfold emit
  split
  · exact refused _ ‹_›
  · cases h : s.txAnswer
    · exact failed _ ‹_› h
    · exact accepted _ ‹_› h

/-! ### The retry queue -/

theorem cancelPending_elim {P : State → Prop} {s : State} {c : Byte} (idle : s.inFlight? c = none → P s)
    (busy : ∀ p, s.inFlight? c = some p → P (s.resolve c p .cancelled)) : P (s.cancelPending c) := by
  unfold State.cancelPending
  split
  · exact idle ‹_›
  · exact busy _ ‹_›

theorem ackCompleted_elim {P : State → Prop} {s : State} {c : Byte} (idle : s.inFlight? c = none → P s)
    (busy : ∀ p, s.inFlight? c = some p → P (s.resolve c p .success)) : P (s.ackCompleted c) := by
  unfold State.ackCompleted
  split
  · exact idle ‹_›
  · exact busy _ ‹_›

/-- What serving a due or failed send can do; the Boolean says that no resend was refused. -/
theorem retryOrFail_elim {P : State × Bool → Prop} {s : State} {c : Byte} {p : Pending}
    (resent : p.retries.toNat < s.maxRetries.toNat → s.txAnswer = true →
      P ((s.txWrite p.frame).setPend c { p with retries := p.retries + 1#8, sentAt := s.inp.now }, true))
    (refused : p.retries.toNat < s.maxRetries.toNat → s.txAnswer = false →
      P (((s.txWrite p.frame).transportFault (some c)).resolve c p .transport, false))
    (exhausted : s.maxRetries.toNat ≤ p.retries.toNat → P (s.resolve c p .failed, true)) :
    P (s.retryOrFail c p) := by
  unfold State.retryOrFail
  split
  · cases h : s.txAnswer
    · exact refused ‹_› h
    · exact resent ‹_› h
  · exact exhausted (Nat.le_of_not_lt ‹_›)

theorem retryOrFail_resent {s : State} (c : Byte) {p : Pending} (h : p.retries.toNat < s.maxRetries.toNat)
    (ok : s.txAnswer = true) : s.retryOrFail c p =
      ((s.txWrite p.frame).setPend c { p with retries := p.retries + 1#8, sentAt := s.inp.now }, true) := by
  simp [State.retryOrFail, h, ok]

theorem retryOrFail_refused {s : State} {c : Byte} {v : Channel} {p : Pending}
    (h : p.retries.toNat < s.maxRetries.toNat) (no : s.txAnswer = false) (hv : s.slot? c = some v) :
    s.retryOrFail c p = ((((s.txWrite p.frame).setSlot c { v with xfault := true }).notify
      (.transportFail (some c))).resolve c p .transport, false) := by
  simp [State.retryOrFail, h, no, transportFault_slot (s := s.txWrite p.frame) (v := v) hv]

theorem retryOrFail_exhausted {s : State} (c : Byte) {p : Pending} (h : s.maxRetries.toNat ≤ p.retries.toNat) :
    s.retryOrFail c p = (s.resolve c p .failed, true) := by
  simp [State.retryOrFail, Nat.not_lt.2 h]

theorem ackFailed_elim {P : State → Prop} {s : State} {c : Byte} (idle : s.inFlight? c = none → P (s.ret .none))
    (resent : ∀ p, s.inFlight? c = some p → p.retries.toNat < s.maxRetries.toNat → s.txAnswer = true →
      P (((s.txWrite p.frame).setPend c { p with retries := p.retries + 1#8, sentAt := s.inp.now }).ret .none))
    (refused : ∀ p, s.inFlight? c = some p → p.retries.toNat < s.maxRetries.toNat → s.txAnswer = false →
      P ((((s.txWrite p.frame).transportFault (some c)).resolve c p .transport).raise (.transport (some c))))
    (exhausted : ∀ p, s.inFlight? c = some p → s.maxRetries.toNat ≤ p.retries.toNat →
      P ((s.resolve c p .failed).ret .none)) : P (s.ackFailed c) := by
  unfold State.ackFailed
  split
  · exact idle ‹_›
  · rename_i p hp
    have h := @retryOrFail_elim (fun a => P (match a with
      | (s', true) => s'.ret .none
      | (s', false) => s'.raise (.transport (some c)))) s c p (resent p hp) (refused p hp) (exhausted p hp)
    exact h

theorem submit_elim {P : State → Prop} {s : State} {c : Byte} {kind : SendKind} {m : Message}
    (unknown : s.slot? c = none → P (s.raise (.unknownChannel c)))
    (notOpen : ∀ v, s.slot? c = some v → v.state.isOpen = false → P (s.raise (.channelNotOpen c v.state)))
    (busy : ∀ v p, s.slot? c = some v → v.state.isOpen = true → s.inFlight? c = some p → P (s.raise (.sendInProgress c)))
    (refused : ∀ v e, s.slot? c = some v → v.state.isOpen = true → s.inFlight? c = none →
      encodeMsg s.cfg m = .error e → P (s.raise (.encoding e)))
    (accepted : ∀ v f, s.slot? c = some v → v.state.isOpen = true → s.inFlight? c = none →
      encodeMsg s.cfg m = .ok f → s.txAnswer = true →
      P (((s.txWrite f).setPend c
        { valid := true, frame := f, kind := kind, sentAt := s.inp.now, retries := 0#8 }).ret (.handle c)))
    (failed : ∀ v f, s.slot? c = some v → v.state.isOpen = true → s.inFlight? c = none →
      encodeMsg s.cfg m = .ok f → s.txAnswer = false →
      P (((s.txWrite f).transportFault (some c)).raise (.transport (some c)))) : P (submit s c kind m) := by
  refine withSlot_elim unknown fun v hv => ?_
  split
  · rename_i ho
    split
    · exact busy v _ hv ho ‹_›
    · rename_i hi
      exact emit_elim (fun e => refused v e hv ho hi) (fun f => accepted v f hv ho hi) (fun f => failed v f hv ho hi)
  · exact notOpen v hv (Bool.eq_false_of_not_eq_true ‹_›)

/-- One pass of `TICK`'s loop body. -/
theorem tickChannel_elim {P : State × Option Byte → Prop} {s : State} {low : Option Byte} {c : Byte}
    (idle : s.inFlight? c = none → P (s, low))
    (early : ∀ p, s.inFlight? c = some p → s.isDue p = false → P (s, low))
    (resent : ∀ p, s.inFlight? c = some p → s.isDue p = true → p.retries.toNat < s.maxRetries.toNat →
      s.txAnswer = true →
      P ((s.txWrite p.frame).setPend c { p with retries := p.retries + 1#8, sentAt := s.inp.now }, low))
    (refused : ∀ p, s.inFlight? c = some p → s.isDue p = true → p.retries.toNat < s.maxRetries.toNat →
      s.txAnswer = false →
      P (((s.txWrite p.frame).transportFault (some c)).resolve c p .transport, low.or (some c)))
    (exhausted : ∀ p, s.inFlight? c = some p → s.isDue p = true → s.maxRetries.toNat ≤ p.retries.toNat →
      P (s.resolve c p .failed, low)) : P (tickChannel (s, low) c) := by
  unfold tickChannel
  split
  · exact idle ‹_›
  · rename_i p hp
    split
    · rename_i hd
      have h := @retryOrFail_elim (fun a => P (match a with
        | (s', true) => (s', low)
        | (s', false) => (s', low.or (some c)))) s c p (resent p hp hd) (refused p hp hd) (exhausted p hp hd)
      exact h
    · exact early p hp (Bool.eq_false_of_not_eq_true ‹_›)

/-- What holds before the first pass and is kept by every pass holds after all of them. -/
theorem tickFold_elim {P : State × Option Byte → Prop} (pass : ∀ a c, P a → P (tickChannel a c)) :
    ∀ (cs : List Byte) (a : State × Option Byte), P a → P (cs.foldl tickChannel a)
  | [], _, h => h
  | c :: cs, a, h => tickFold_elim pass cs _ (pass a c h)

/-- `TICK` ends with the state after all passes and a result. -/
theorem execTick_next {s t : State} : execTick s = .next t ↔ s.Ready ∧
    t = (match (s.channels.foldl tickChannel (s.sample, none)).2 with
      | none => (s.channels.foldl tickChannel (s.sample, none)).1.ret .none
      | some c => (s.channels.foldl tickChannel (s.sample, none)).1.raise (.transport (some c))) := by
  unfold execTick
  rw [accept_next]
  simp only [State.sample_channels]
  rcases s.channels.foldl tickChannel (s.sample, none) with ⟨a, _ | c⟩ <;> rfl

/-! ### Opening and closing -/

/-- `ENGINE_OPEN` either opens the device or reports that the transport did not open. -/
theorem openWith_next {s t : State} {n : BitVec 9} {ackTimeout : Time} {maxRetries : Byte}
    (h : openWith n ackTimeout maxRetries s = .next t) :
    s.cfg.openRange n ackTimeout = true ∧ s.eng = .closed ∧ s.tLast.toNat ≤ s.inp.now.toNat ∧
      ((s.inp.openOk = true ∧ t = (s.sample.openTransport.deviceOpen n ackTimeout maxRetries).ret .none)
        ∨ (s.inp.openOk = false ∧ t = (s.sample.openTransport.transportFault none).raise (.transport none))) := by
  unfold openWith at h
  obtain ⟨hr, h⟩ := inRange_next.1 h
  obtain ⟨hc, ht, h⟩ := acceptClosed_next.1 h
  refine ⟨hr, hc, ht, ?_⟩
  cases ho : s.inp.openOk <;> simp_all

/-- The same, for the operation with its defaults. -/
theorem execEngineOpen_next {s t : State} {n : BitVec 9} {ackTimeout : Option Time} {maxRetries : Option Byte}
    (h : execEngineOpen n ackTimeout maxRetries s = .next t) :
    s.cfg.openRange n (ackTimeout.getD s.cfg.ackTimeout) = true ∧ s.eng = .closed ∧ s.tLast.toNat ≤ s.inp.now.toNat ∧
      ((s.inp.openOk = true ∧ t = (s.sample.openTransport.deviceOpen n (ackTimeout.getD s.cfg.ackTimeout)
          (maxRetries.getD s.cfg.maxRetries)).ret .none)
        ∨ (s.inp.openOk = false ∧ t = (s.sample.openTransport.transportFault none).raise (.transport none))) := openWith_next h

/-- `ENGINE_CLOSE` cancels every send in flight, channel by channel, and stops the engine. -/
theorem execEngineClose_next {s t : State} : execEngineClose s = .next t ↔
    s.Ready ∧ t = (s.channels.foldl State.cancelPending s.sample).engineStop.ret .none := by
  unfold execEngineClose
  exact accept_next

/-- What holds before the cancellations and is kept by each holds after all of them. -/
theorem cancelFold_elim {P : State → Prop} (one : ∀ a c, P a → P (a.cancelPending c)) :
    ∀ (cs : List Byte) (a : State), P a → P (cs.foldl State.cancelPending a)
  | [], _, h => h
  | c :: cs, a, h => cancelFold_elim one cs _ (one a c h)

/-! ### The dispatcher -/

theorem routeChannel_elim {P : State → Prop} {s : State} {k : Kind} {content : List Byte}
    {handle : Byte → Channel → Message → State}
    (empty : content = [] → P ((s.warn (.malformed (s.cfg.idOf k) none)).drop .malformed))
    (unknown : ∀ c0 rest, content = c0 :: rest →
      (s.slot? (chanOf s.cfg k c0) = none ∨ ∃ v, s.slot? (chanOf s.cfg k c0) = some v ∧ v.state = .unassigned) →
      P ((s.warn (.unknownChannel (s.cfg.idOf k) (chanOf s.cfg k c0))).raise (.unknownChannel (chanOf s.cfg k c0))))
    (closed : ∀ c0 rest v, content = c0 :: rest → s.slot? (chanOf s.cfg k c0) = some v → v.state = .closed →
      P (s.drop .closed))
    (malformed : ∀ c0 rest v, content = c0 :: rest → s.slot? (chanOf s.cfg k c0) = some v →
      v.state ≠ .unassigned → v.state ≠ .closed → parseContent? s.cfg k content = none →
      P ((s.warn (.malformed (s.cfg.idOf k) (some (chanOf s.cfg k c0)))).drop .malformed))
    (good : ∀ c0 rest v m, content = c0 :: rest → s.slot? (chanOf s.cfg k c0) = some v →
      v.state ≠ .unassigned → v.state ≠ .closed → parseContent? s.cfg k content = some m →
      P (handle (chanOf s.cfg k c0) v m)) : P (routeChannel s k content handle) := by
  unfold routeChannel
  split
  · exact empty rfl
  · rename_i c0 rest
    dsimp only
    split
    · exact unknown c0 rest rfl (.inl ‹_›)
    · rename_i v hv
      split
      · exact unknown c0 rest rfl (.inr ⟨v, hv, ‹_›⟩)
      · exact closed c0 rest v rfl hv ‹_›
      · rename_i hu hc
        split
        · exact malformed c0 rest v rfl hv hu hc ‹_›
        · exact good c0 rest v _ rfl hv hu hc ‹_›

/-- `HandleEvent` for a message of a data kind. -/
theorem handleData_elim {P : State → Prop} {s : State} {k : Kind} {c : Byte} {v : Channel} {m : Message}
    (found : ∀ kind seq data, dataFields m = some (kind, seq, data) → v.state = .searching →
      P ((((s.setSlot c { v with state := .tracking }).notify (.deviceFound c)).notify (.data c kind seq data)).ret .none))
    (surfaced : ∀ kind seq data, dataFields m = some (kind, seq, data) → v.state = .tracking →
      P ((s.notify (.data c kind seq data)).ret .none))
    (dropped : P (s.unexpected k c)) : P (handleData s k c v m) := by
  unfold handleData
  split
  · exact dropped
  · split
    · exact found _ _ _ ‹_› ‹_›
    · exact surfaced _ _ _ ‹_› ‹_›
    · exact dropped

/-- The frame instructions `RX_STEP` runs are the rows of the opcode table. -/
theorem dispatch_eq (id : Byte) (content : List Byte) (s : State) :
    dispatch id content s = exec (frameInstr s.cfg id content) s := by
  unfold dispatch frameInstr
  cases s.cfg.kindOf? id with
  | none => rfl
  | some k =>
    cases k with
    | channelEvent =>
      dsimp only
      unfold eventInstr
      repeat' split
      all_goals simp_all [exec]
    | _ => rfl

/-- `RX_STEP`, by the verdict of `DECODE` on the buffer. -/
theorem execRxStep_elim {P : Answer → Prop} {s : State}
    (more : ∀ skip, decodeFrame s.cfg s.rxbuf = .needMoreData skip →
      P (accept s fun s => (s.rxDrop skip).raise .needMoreData))
    (bad : ∀ skip, decodeFrame s.cfg s.rxbuf = .checksumError skip →
      P (accept s fun s => ((s.rxDrop (skip + 1)).notify
        (.warning (.checksum (s.rxPos + BitVec.ofNat 64 skip)))).raise (.checksum (s.rxPos + BitVec.ofNat 64 skip))))
    (good : ∀ id content n, decodeFrame s.cfg s.rxbuf = .frame id content n →
      P (exec (frameInstr s.cfg id content) (s.rxDrop n))) : P (execRxStep s) := by
  unfold execRxStep
  split
  · exact more _ ‹_›
  · exact bad _ ‹_›
  · rw [dispatch_eq]
    exact good _ _ _ ‹_›

/-! ### The RX buffer's form -/

theorem Memory.wf_iff {cap : Nat} {m : Memory} : Memory.wf cap m = true ↔ m.length ≤ cap := by simp [Memory.wf]

theorem Memory.wf_drop {cap : Nat} {m : Memory} (n : Nat) (h : Memory.wf cap m = true) :
    Memory.wf cap (m.drop n) = true := by
  rw [Memory.wf_iff] at *
  simp only [List.length_drop]
  omega

theorem Memory.wf_append {cap : Nat} {m : Memory} (bs : List Byte) (h : Memory.wf cap m = true)
    (hb : bs.length ≤ cap - m.length) : Memory.wf cap (m ++ bs) = true := by
  rw [Memory.wf_iff] at *
  simp only [List.length_append]
  omega

/-- `RxDrop` keeps the form. -/
theorem rxDrop_wf {s : State} (n : Nat) (h : Memory.wf s.cfg.rxbufCap s.rxbuf = true) :
    Memory.wf (s.rxDrop n).cfg.rxbufCap (s.rxDrop n).rxbuf = true := Memory.wf_drop n h

/-- `RxAppend` of no more than the free space keeps the form. -/
theorem rxAppend_wf {s : State} (bs : List Byte) (h : Memory.wf s.cfg.rxbufCap s.rxbuf = true)
    (hb : bs.length ≤ s.rxFree) : Memory.wf (s.rxAppend bs).cfg.rxbufCap (s.rxAppend bs).rxbuf = true :=
  Memory.wf_append bs h hb

/-- `ENGINE_CLOSE` and device-open leave an empty buffer. -/
theorem empty_wf (cap : Nat) : Memory.wf cap [] = true := by simp [Memory.wf]

/-- The reset state's buffer has the form. -/
theorem reset_buffer_wf : Memory.wf State.reset.cfg.rxbufCap State.reset.rxbuf = true := empty_wf _

end Sys2Proof.Machine
end

