-- ==== Sys2Proof/Laws/Ends.lean ====
section
/-! SUPPORT. How an instruction that addresses at most one channel can end: one inductive with a constructor for each way,
and one lemma per instruction that it ends in one of them. What holds of every way holds of every instruction but
`ENGINE_OPEN`, `ENGINE_CLOSE`, `TICK` and `RX_STEP` (which runs a frame instruction). -/

namespace Sys2Proof.Machine

/-- The slot writes that follow an accepted frame: the instruction, its channel, the slot before and after. -/
inductive SlotWrite : Instr → Byte → Channel → Channel → Prop
  | assign (c ty nw : Byte) (v : Channel) (h : v.state = .unassigned) :
    SlotWrite (.assign c ty nw) c v { v with chanType := ty, network := nw, state := .assigned }
  | setChannelId (c : Byte) (dn : Half) (dt : BitVec 7) (tt : Byte) (v : Channel) (h : v.state = .assigned) :
    SlotWrite (.setChannelId c dn dt tt) c v { v with devNumber := dn, devType := dt, transType := tt, idSet := true }
  | setRfFreq (c freq : Byte) (v : Channel) (h : v.state = .assigned) :
    SlotWrite (.setRfFreq c freq) c v { v with rfFreq := freq, rfSet := true }
  | setPeriod (c : Byte) (period : Half) (v : Channel) (h : v.state = .assigned) :
    SlotWrite (.setPeriod c period) c v { v with period := period, periodSet := true }
  | openCh (c : Byte) (v : Channel) (h : v.state = .assigned) :
    SlotWrite (.openCh c) c v { v with state := .searching }
  | unassign (c : Byte) (v : Channel) (h : v.state = .closed) :
    SlotWrite (.unassign c) c v
      { v with
        state := .unassigned, idSet := false, rfSet := false, periodSet := false, pairing := false, xfault := false }

/-- The host operations that write a frame for the channel they name. -/
inductive WritesFor : Instr → Byte → Prop
  | assign (c ty nw : Byte) : WritesFor (.assign c ty nw) c
  | unassign (c : Byte) : WritesFor (.unassign c) c
  | setChannelId (c : Byte) (dn : Half) (dt : BitVec 7) (tt : Byte) : WritesFor (.setChannelId c dn dt tt) c
  | setRfFreq (c freq : Byte) : WritesFor (.setRfFreq c freq) c
  | setPeriod (c : Byte) (period : Half) : WritesFor (.setPeriod c period) c
  | openCh (c : Byte) : WritesFor (.openCh c) c
  | closeCh (c : Byte) : WritesFor (.closeCh c) c
  | sendBroadcast (c : Byte) (data : Payload) : WritesFor (.sendBroadcast c data) c
  | sendAck (c : Byte) (data : Payload) : WritesFor (.sendAck c data) c
  | sendBurst (c : Byte) (seq : BitVec 3) (data : Payload) : WritesFor (.sendBurst c seq data) c

/-- The host operations that write a frame and no state. -/
inductive SendsOnly : Instr → Prop
  | request (ch reqId : Byte) : SendsOnly (.request ch reqId)
  | sendBroadcast (c : Byte) (data : Payload) : SendsOnly (.sendBroadcast c data)

/-- The two submissions, with the kind and the message they record. -/
inductive Submits : Instr → Byte → SendKind → Message → Prop
  | ack (c : Byte) (data : Payload) : Submits (.sendAck c data) c .ack (.acknowledgedData c data)
  | burst (c : Byte) (seq : BitVec 3) (data : Payload) :
    Submits (.sendBurst c seq data) c .burst (.burstData c (seq.setWidth 8) data)

/-- The three data messages, with the channel they are for. -/
inductive DataFor (cfg : Config) : Instr → Byte → Prop
  | broadcast (c : Byte) (rest : List Byte) : DataFor cfg (.msgBroadcastData (c :: rest)) c
  | acknowledged (c : Byte) (rest : List Byte) : DataFor cfg (.msgAcknowledgedData (c :: rest)) c
  | burst (c0 : Byte) (rest : List Byte) : DataFor cfg (.msgBurstData (c0 :: rest)) (burstChan cfg c0)

/-- No notification of a resolved send. -/
def Notification.isQuiet : Notification → Prop
  | .ackResolved _ _ => False
  | _ => True

/-- How instruction `i` can end from the (sampled) state `s`. -/
inductive Ends (i : Instr) (s : State) : State → Prop
  /-- Nothing but the result is written, which is not `OK` without a value; only `RX_STEP` itself answers
  `NEED_MORE_DATA`. -/
  | said (r : Result) (other : r ≠ .needMoreData) (done : r ≠ .ok .none) : Ends i s (s.raise r)
  /-- A message: one notification and the result. -/
  | noted (n : Notification) (r : Result) (hi : i.space = .wire) (quiet : n.isQuiet) (other : r ≠ .needMoreData) :
    Ends i s ((s.notify n).raise r)
  | viewed (c : Byte) (v : Value) (hi : i = .getChannel c) : Ends i s (s.useFree.ret v)
  | pollFailed (hi : i = .rxPoll) : Ends i s ((s.transportFault none).raise (.transport none))
  | polled (hi : i = .rxPoll) (bs : List Byte) (fits : bs.length ≤ s.rxFree) :
    Ends i s ((({ s with wire := s.wire.drop bs.length } : State).rxAppend bs).ret (.count bs.length))
  /-- A frame went out and nothing else changed: `REQUEST`, `SEND_BROADCAST`. -/
  | sent (f : Frame) (hi : SendsOnly i) : Ends i s ((s.txWrite f).ret .none)
  | requestFailed (ch reqId : Byte) (f : Frame) (hi : i = .request ch reqId) (no : s.txAnswer = false) :
    Ends i s (((s.txWrite f).transportFault none).raise (.transport none))
  | writeFailed (c : Byte) (v : Channel) (f : Frame) (hi : WritesFor i c) (hv : s.slot? c = some v)
    (fresh : v.state = .unassigned → ∃ ty nw, i = .assign c ty nw) (no : s.txAnswer = false) :
    Ends i s ((((s.txWrite f).setSlot c { v with xfault := true }).notify (.transportFail (some c))).raise
      (.transport (some c)))
  | wrote (c : Byte) (v w : Channel) (f : Frame) (hi : SlotWrite i c v w) (hv : s.slot? c = some v) :
    Ends i s (((s.txWrite f).setSlot c w).ret .none)
  | paired (c : Byte) (bit : Bool) (v : Channel) (hi : i = .setPairing c bit) (hv : s.slot? c = some v) :
    Ends i s ((s.setSlot c { v with pairing := bit }).ret .none)
  | closed (c : Byte) (v : Channel) (f : Frame) (hi : i = .closeCh c) (hv : s.slot? c = some v)
    (ho : v.state.isOpen = true) :
    Ends i s ((((s.txWrite f).setSlot c { v with state := .closed }).cancelPending c).ret .none)
  | submitted (c : Byte) (v : Channel) (kind : SendKind) (m : Message) (f : Frame) (hi : Submits i c kind m)
    (hv : s.slot? c = some v) (ho : v.state.isOpen = true) (idle : s.inFlight? c = none)
    (hf : encodeMsg s.cfg m = .ok f) :
    Ends i s (((s.txWrite f).setPend c
      { valid := true, frame := f, kind := kind, sentAt := s.inp.now, retries := 0#8 }).ret (.handle c))
  | found (c : Byte) (v : Channel) (kind : DataKind) (seq : Byte) (data : Payload) (hi : DataFor s.cfg i c)
    (hv : s.slot? c = some v) (hs : v.state = .searching) :
    Ends i s ((((s.setSlot c { v with state := .tracking }).notify (.deviceFound c)).notify
      (.data c kind seq data)).ret .none)
  | timedOut (c initId code : Byte) (v : Channel) (hi : i = .evtRxSearchTimeout c initId) (hv : s.slot? c = some v)
    (hs : v.state = .searching) :
    Ends i s ((((s.notify (.channelEvent c initId code)).setSlot c { v with state := .closed }).cancelPending c).ret
      .none)
  | lost (c initId code : Byte) (v : Channel) (hi : i = .evtRxFailGoToSearch c initId) (hv : s.slot? c = some v)
    (hs : v.state = .tracking) :
    Ends i s (((s.notify (.channelEvent c initId code)).setSlot c { v with state := .searching }).ret .none)
  | completed (c initId code : Byte) (v : Channel) (hi : i = .evtTransferTxCompleted c initId)
    (hv : s.slot? c = some v) : Ends i s (((s.notify (.channelEvent c initId code)).ackCompleted c).ret .none)
  | transferFailed (c initId code : Byte) (v : Channel) (hi : i = .evtTransferTxFailed c initId)
    (hv : s.slot? c = some v) : Ends i s ((s.notify (.channelEvent c initId code)).ackFailed c)

/-! ### The shared ends -/

/-- A host operation that checks the state, writes a frame and goes on. -/
theorem hostOp_ends {i : Instr} {s : State} {c : Byte} {sources : List ChState} {m : Channel → Message}
    {post : Channel → State → Frame → State} (hi : WritesFor i c)
    (fresh : .unassigned ∈ sources → ∃ ty nw, i = .assign c ty nw)
    (done : ∀ v f, s.slot? c = some v → v.state ∈ sources → Ends i s (post v (s.txWrite f) f)) :
    Ends i s (withSlot s c fun v => inState s c v sources <| emit s (some c) (m v) (post v)) := by
  refine withSlot_elim (fun _ => .said _ nofun nofun) fun v hv => inState_elim (fun hs => ?_) fun _ => .said _ nofun nofun
  refine emit_elim (fun _ _ => .said _ nofun nofun) (fun f _ _ => done v f hv hs) fun f _ no => ?_
  rw [transportFault_slot (s := s.txWrite f) (v := v) hv]
  exact .writeFailed c v f hi hv (fun e => fresh (e ▸ hs)) no

theorem submit_ends {i : Instr} {s : State} {c : Byte} {kind : SendKind} {m : Message} (hw : WritesFor i c)
    (hi : Submits i c kind m) : Ends i s (submit s c kind m) := by
  refine submit_elim (fun _ => .said _ nofun nofun) (fun _ _ _ => .said _ nofun nofun)
    (fun _ _ _ _ _ => .said _ nofun nofun) (fun _ _ _ _ _ _ => .said _ nofun nofun)
    (fun v f hv ho idle hf _ => .submitted c v kind m f hi hv ho idle hf) fun v f hv ho _ _ no => ?_
  rw [transportFault_slot (s := s.txWrite f) (v := v) hv]
  exact .writeFailed c v f hw hv (fun e => by rw [e] at ho; cases ho) no

/-- A channel-bearing message: the rejections, then its own rule. -/
theorem route_ends {i : Instr} {s : State} {k : Kind} {content : List Byte} {handle : Byte → Channel → Message → State}
    (hw : i.space = .wire) (good : ∀ c0 rest v m, content = c0 :: rest → s.slot? (chanOf s.cfg k c0) = some v →
      parseContent? s.cfg k content = some m → Ends i s (handle (chanOf s.cfg k c0) v m)) :
    Ends i s (routeChannel s k content handle) :=
  routeChannel_elim (fun _ => .noted _ _ hw trivial nofun) (fun _ _ _ _ => .noted _ _ hw trivial nofun)
    (fun _ _ _ _ _ _ => .said _ nofun nofun) (fun _ _ _ _ _ _ _ _ => .noted _ _ hw trivial nofun) fun c0 rest v m hc hv _ _ hm => good c0 rest v m hc hv hm

theorem unexpected_ends {i : Instr} {s : State} {k : Kind} {content : List Byte} (hw : i.space = .wire) :
    Ends i s (routeChannel s k content fun c _ _ => s.unexpected k c) :=
  route_ends hw fun _ _ _ _ _ _ _ => .noted _ _ hw trivial nofun

theorem data_ends {i : Instr} {s : State} {k : Kind} {content : List Byte} (hw : i.space = .wire)
    (hi : ∀ c0 rest, content = c0 :: rest → DataFor s.cfg i (chanOf s.cfg k c0)) :
    Ends i s (routeChannel s k content (handleData s k)) :=
  route_ends hw fun c0 rest v _ hc hv _ => handleData_elim
    (fun kind seq data _ hs => .found _ v kind seq data (hi c0 rest hc) hv hs)
    (fun _ _ _ _ _ => .noted _ _ hw trivial nofun) (.noted _ _ hw trivial nofun)

theorem event_ends {i : Instr} {s : State} {content : List Byte} {act : State → Byte → Channel → State}
    (hw : i.space = .wire) (good : ∀ c initId code v, content = [c, initId, code] → s.slot? c = some v →
      Ends i s (act (s.notify (.channelEvent c initId code)) c v)) : Ends i s (routeEvent s content act) := by
  refine route_ends hw fun c0 rest v m hc hv hm => ?_
  subst hc
  match rest, hm with
  | [initId, code], hm =>
    obtain rfl : Message.channelEvent c0 initId code = m := by simpa [parseContent?] using hm
    exact good c0 initId code v rfl hv

/-! ### Every instruction -/

/-- The instructions `Ends` speaks of. -/
def isLocal : Instr → Bool
  | .engineOpen _ _ _ => false
  | .engineClose => false
  | .tick => false
  | .rxStep => false
  | _ => true

/-- Every local instruction is one acceptance test around one function of the sampled state. -/
theorem exec_shape {i : Instr} (hl : isLocal i = true) : ∃ k : State → State, ∀ s : State, exec i s = accept s k := by
  cases i <;> first
  | exact absurd hl Bool.false_ne_true
  | (simp only [exec, execMsgChannelEvent, execMsgUnassignChannel, execMsgAssignChannel, execMsgSetPeriod, execMsgSetRfFreq,
      execMsgOpenChannel, execMsgCloseChannel, execMsgRequestMessage, execMsgBroadcastData, execMsgAcknowledgedData,
      execMsgBurstData, execMsgSetChannelId, execMsgCapabilities, execMsgSerialNumber, execMsgStartup,
      execMsgUnrecognizedId, execEvtRxSearchTimeout, execEvtTransferTxCompleted, execEvtTransferTxFailed,
      execEvtRxFailGoToSearch, execAssign, execUnassign, execSetChannelId, execSetRfFreq, execSetPeriod,
      execSetPairing, execOpen, execClose, execSendBroadcast, execSendAck, execSendBurst, execRequest, execGetChannel,
      execGetEngine, execRxPoll, execEncode, execDecode]
     exact ⟨_, fun _ => rfl⟩)

/-- Every local instruction that is accepted was allowed to be, and ends in one of the ways of `Ends`. -/
theorem exec_ends {i : Instr} {s t : State} (hl : isLocal i = true) (h : exec i s = .next t) :
    s.Ready ∧ Ends i s.sample t := by
  cases i with
  | engineOpen => cases hl
  | engineClose => cases hl
  | tick => cases hl
  | rxStep => cases hl
  | msgChannelEvent content =>
    simp only [exec, execMsgChannelEvent] at h
    obtain ⟨hr, rfl⟩ := accept_next.1 h
    exact ⟨hr, event_ends rfl fun _ _ _ _ _ _ => .noted _ _ rfl trivial nofun⟩
  | msgUnassignChannel content =>
    simp only [exec, execMsgUnassignChannel] at h
    obtain ⟨hr, rfl⟩ := accept_next.1 h
    exact ⟨hr, unexpected_ends rfl⟩
  | msgAssignChannel content =>
    simp only [exec, execMsgAssignChannel] at h
    obtain ⟨hr, rfl⟩ := accept_next.1 h
    exact ⟨hr, unexpected_ends rfl⟩
  | msgSetPeriod content =>
    simp only [exec, execMsgSetPeriod] at h
    obtain ⟨hr, rfl⟩ := accept_next.1 h
    exact ⟨hr, unexpected_ends rfl⟩
  | msgSetRfFreq content =>
    simp only [exec, execMsgSetRfFreq] at h
    obtain ⟨hr, rfl⟩ := accept_next.1 h
    exact ⟨hr, unexpected_ends rfl⟩
  | msgOpenChannel content =>
    simp only [exec, execMsgOpenChannel] at h
    obtain ⟨hr, rfl⟩ := accept_next.1 h
    exact ⟨hr, unexpected_ends rfl⟩
  | msgCloseChannel content =>
    simp only [exec, execMsgCloseChannel] at h
    obtain ⟨hr, rfl⟩ := accept_next.1 h
    exact ⟨hr, unexpected_ends rfl⟩
  | msgRequestMessage content =>
    simp only [exec, execMsgRequestMessage] at h
    obtain ⟨hr, rfl⟩ := accept_next.1 h
    exact ⟨hr, unexpected_ends rfl⟩
  | msgSetChannelId content =>
    simp only [exec, execMsgSetChannelId] at h
    obtain ⟨hr, rfl⟩ := accept_next.1 h
    exact ⟨hr, unexpected_ends rfl⟩
  | msgBroadcastData content =>
    simp only [exec, execMsgBroadcastData] at h
    obtain ⟨hr, rfl⟩ := accept_next.1 h
    exact ⟨hr, data_ends rfl (by rintro c0 rest rfl; exact .broadcast c0 rest)⟩
  | msgAcknowledgedData content =>
    simp only [exec, execMsgAcknowledgedData] at h
    obtain ⟨hr, rfl⟩ := accept_next.1 h
    exact ⟨hr, data_ends rfl (by rintro c0 rest rfl; exact .acknowledged c0 rest)⟩
  | msgBurstData content =>
    simp only [exec, execMsgBurstData] at h
    obtain ⟨hr, rfl⟩ := accept_next.1 h
    exact ⟨hr, data_ends rfl (by rintro c0 rest rfl; exact .burst c0 rest)⟩
  | msgCapabilities content =>
    simp only [exec, execMsgCapabilities] at h
    obtain ⟨hr, rfl⟩ := accept_next.1 h
    exact ⟨hr, .noted _ _ rfl trivial nofun⟩
  | msgSerialNumber content =>
    simp only [exec, execMsgSerialNumber] at h
    obtain ⟨hr, rfl⟩ := accept_next.1 h
    exact ⟨hr, .noted _ _ rfl trivial nofun⟩
  | msgStartup content =>
    simp only [exec, execMsgStartup] at h
    obtain ⟨hr, rfl⟩ := accept_next.1 h
    exact ⟨hr, .noted _ _ rfl trivial nofun⟩
  | msgUnrecognizedId id content =>
    simp only [exec, execMsgUnrecognizedId] at h
    obtain ⟨hr, rfl⟩ := accept_next.1 h
    exact ⟨hr, .noted _ _ rfl trivial nofun⟩
  | evtRxSearchTimeout chan initId =>
    simp only [exec, execEvtRxSearchTimeout] at h
    obtain ⟨hr, rfl⟩ := accept_next.1 h
    refine ⟨hr, event_ends rfl fun c iid code v hc hv => ?_⟩
    obtain ⟨rfl, rfl, -⟩ : chan = c ∧ initId = iid ∧ _ := by simpa using hc
    split
    · exact .timedOut _ _ _ v rfl hv ‹_›
    · exact .noted _ _ rfl trivial nofun
  | evtTransferTxCompleted chan initId =>
    simp only [exec, execEvtTransferTxCompleted] at h
    obtain ⟨hr, rfl⟩ := accept_next.1 h
    refine ⟨hr, event_ends rfl fun c iid code v hc hv => ?_⟩
    obtain ⟨rfl, rfl, -⟩ : chan = c ∧ initId = iid ∧ _ := by simpa using hc
    exact .completed _ _ _ v rfl hv
  | evtTransferTxFailed chan initId =>
    simp only [exec, execEvtTransferTxFailed] at h
    obtain ⟨hr, rfl⟩ := accept_next.1 h
    refine ⟨hr, event_ends rfl fun c iid code v hc hv => ?_⟩
    obtain ⟨rfl, rfl, -⟩ : chan = c ∧ initId = iid ∧ _ := by simpa using hc
    exact .transferFailed _ _ _ v rfl hv
  | evtRxFailGoToSearch chan initId =>
    simp only [exec, execEvtRxFailGoToSearch] at h
    obtain ⟨hr, rfl⟩ := accept_next.1 h
    refine ⟨hr, event_ends rfl fun c iid code v hc hv => ?_⟩
    obtain ⟨rfl, rfl, -⟩ : chan = c ∧ initId = iid ∧ _ := by simpa using hc
    split
    · exact .lost _ _ _ v rfl hv ‹_›
    · exact .noted _ _ rfl trivial nofun
  | assign ch ty nw =>
    simp only [exec, execAssign] at h
    obtain ⟨hr, rfl⟩ := accept_next.1 h
    refine ⟨hr, hostOp_ends (.assign ch ty nw) (fun _ => ⟨ty, nw, rfl⟩) fun v f hv hs => .wrote ch v _ f (.assign ch ty nw v ?_) hv⟩
    simpa using hs
  | unassign ch =>
    simp only [exec, execUnassign] at h
    obtain ⟨hr, rfl⟩ := accept_next.1 h
    refine ⟨hr, hostOp_ends (.unassign ch) (by simp) fun v f hv hs => .wrote ch v _ f (.unassign ch v ?_) hv⟩
    simpa using hs
  | setChannelId ch dn dt tt =>
    simp only [exec, execSetChannelId] at h
    obtain ⟨hr, rfl⟩ := accept_next.1 h
    refine ⟨hr, hostOp_ends (.setChannelId ch dn dt tt) (by simp)
      fun v f hv hs => .wrote ch v _ f (.setChannelId ch dn dt tt v ?_) hv⟩
    simpa using hs
  | setRfFreq ch freq =>
    simp only [exec, execSetRfFreq] at h
    obtain ⟨hr, rfl⟩ := accept_next.1 h
    refine ⟨hr, hostOp_ends (.setRfFreq ch freq) (by simp) fun v f hv hs => .wrote ch v _ f (.setRfFreq ch freq v ?_) hv⟩
    simpa using hs
  | setPeriod ch period =>
    simp only [exec, execSetPeriod] at h
    obtain ⟨hr, rfl⟩ := accept_next.1 h
    refine ⟨hr, hostOp_ends (.setPeriod ch period) (by simp) fun v f hv hs => .wrote ch v _ f (.setPeriod ch period v ?_) hv⟩
    simpa using hs
  | setPairing ch bit =>
    simp only [exec, execSetPairing] at h
    obtain ⟨hr, rfl⟩ := accept_next.1 h
    exact ⟨hr, withSlot_elim (fun _ => .said _ nofun nofun) fun v hv =>
      inState_elim (fun _ => .paired ch bit v rfl hv) fun _ => .said _ nofun nofun⟩
  | openCh ch =>
    simp only [exec, execOpen] at h
    obtain ⟨hr, rfl⟩ := accept_next.1 h
    refine ⟨hr, hostOp_ends (.openCh ch) (by simp) fun v f hv hs => .wrote ch v _ f (.openCh ch v ?_) hv⟩
    simpa using hs
  | closeCh ch =>
    simp only [exec, execClose] at h
    obtain ⟨hr, rfl⟩ := accept_next.1 h
    refine ⟨hr, hostOp_ends (.closeCh ch) (by simp) fun v f hv hs => .closed ch v f rfl hv ?_⟩
    rcases List.mem_pair.1 hs with hs | hs <;> rw [hs] <;> rfl
  | sendBroadcast ch data =>
    simp only [exec, execSendBroadcast] at h
    obtain ⟨hr, rfl⟩ := accept_next.1 h
    exact ⟨hr, hostOp_ends (.sendBroadcast ch data) (by simp) fun v f hv hs => .sent f (.sendBroadcast ch data)⟩
  | sendAck ch data =>
    simp only [exec, execSendAck] at h
    obtain ⟨hr, rfl⟩ := accept_next.1 h
    exact ⟨hr, submit_ends (.sendAck ch data) (.ack ch data)⟩
  | sendBurst ch seq data =>
    simp only [exec, execSendBurst] at h
    obtain ⟨hr, rfl⟩ := accept_next.1 h
    exact ⟨hr, submit_ends (.sendBurst ch seq data) (.burst ch seq data)⟩
  | request ch reqId =>
    simp only [exec, execRequest] at h
    obtain ⟨hr, rfl⟩ := accept_next.1 h
    exact ⟨hr, emit_elim (fun _ _ => .said _ nofun nofun) (fun f _ _ => .sent f (.request ch reqId))
      fun f _ no => .requestFailed ch reqId f rfl no⟩
  | getChannel ch =>
    simp only [exec, execGetChannel] at h
    obtain ⟨hr, rfl⟩ := accept_next.1 h
    exact ⟨hr, withSlot_elim (fun _ => .said _ nofun nofun) fun v _ => .viewed ch _ rfl⟩
  | getEngine =>
    simp only [exec, execGetEngine] at h
    obtain ⟨hr, rfl⟩ := accept_next.1 h
    exact ⟨hr, .said _ nofun nofun⟩
  | rxPoll =>
    simp only [exec, execRxPoll] at h
    obtain ⟨hr, rfl⟩ := accept_next.1 h
    refine ⟨hr, ?_⟩
    split
    · exact .pollFailed rfl
    · exact .polled rfl _ (by simp only [List.length_take, State.sample]; omega)
  | encodeOp id content =>
    simp only [exec, execEncode] at h
    obtain ⟨hr, rfl⟩ := accept_next.1 h
    refine ⟨hr, ?_⟩
    split
    · exact .said _ nofun nofun
    · exact .said _ nofun nofun
  | decodeOp buf =>
    simp only [exec, execDecode] at h
    obtain ⟨hr, rfl⟩ := accept_next.1 h
    exact ⟨hr, .said _ nofun nofun⟩

/-- The instruction of a frame is a local one. -/
theorem frameInstr_isLocal (cfg : Config) (id : Byte) (content : List Byte) :
    isLocal (frameInstr cfg id content) = true ∧ (frameInstr cfg id content).space = .wire := by
  unfold frameInstr eventInstr
  repeat' split
  all_goals exact ⟨rfl, rfl⟩

/-- A frame leaves the past of every slot as it is. -/
theorem Past.after_wire {c : Byte} {i : Instr} {t : State} {past : Past} (h : i.space = .wire) :
    past.after c i t = past := by
  cases i <;> first | rfl | cases h

/-- `RX_STEP` either drops bytes, or drops bytes and warns, or consumes a frame and ends as the frame's instruction
does. -/
theorem rxStep_ends {s t : State} (h : exec .rxStep s = .next t) :
    s.Ready ∧ ((∃ skip, decodeFrame s.cfg s.rxbuf = .needMoreData skip ∧
        t = (s.sample.rxDrop skip).raise .needMoreData)
      ∨ (∃ skip pos, decodeFrame s.cfg s.rxbuf = .checksumError skip ∧
        t = ((s.sample.rxDrop (skip + 1)).notify (.warning (.checksum pos))).raise (.checksum pos))
      ∨ ∃ id content n, decodeFrame s.cfg s.rxbuf = .frame id content n ∧
        Ends (frameInstr s.cfg id content) (s.rxDrop n).sample t) := by
  revert h
  show execRxStep s = .next t → _
  refine execRxStep_elim (P := fun a => a = .next t → _) ?_ ?_ ?_
  · intro skip hd h
    obtain ⟨hr, rfl⟩ := accept_next.1 h
    exact ⟨hr, .inl ⟨skip, hd, rfl⟩⟩
  · intro skip hd h
    obtain ⟨hr, rfl⟩ := accept_next.1 h
    exact ⟨hr, .inr (.inl ⟨skip, _, hd, rfl⟩)⟩
  · intro id content n hd h
    obtain ⟨hr, he⟩ := exec_ends (frameInstr_isLocal _ _ _).1 h
    exact ⟨hr, .inr (.inr ⟨id, content, n, hd, he⟩)⟩

end Sys2Proof.Machine
end

