-- ==== Sys2Proof/Laws/PerInstr.lean ====
section
/-! SUPPORT. The statements made per instruction: what every encoding begins with. -/

open Sys2Proof Sys2Proof.Machine

/-- A frame row's encoding begins with the sync byte (R91) and holds at least the four fixed bytes (R90); an operation's
word begins with an opcode of the operation's own port (R120). -/
def Sys2Proof.Laws.EncodeStart.Statement (i : Instr) : Prop :=
  ∀ cfg : Config,
    match i.space with
    | .wire => (encode cfg i).head? = some cfg.syncByte ∧ 4 ≤ (encode cfg i).length
    | .port p => (encode cfg i).head?.bind opcodePort? = some p

theorem buildFrame_start (cfg : Config) (id : Byte) (content : List Byte) :
    (buildFrame cfg id content).head? = some cfg.syncByte ∧ 4 ≤ (buildFrame cfg id content).length := by
  simp [buildFrame]

theorem Sys2Proof.Laws.EncodeStart.msgChannelEvent (content : List Byte) :
    Sys2Proof.Laws.EncodeStart.Statement (.msgChannelEvent content) := fun cfg => buildFrame_start cfg _ _

theorem Sys2Proof.Laws.EncodeStart.msgUnassignChannel (content : List Byte) :
    Sys2Proof.Laws.EncodeStart.Statement (.msgUnassignChannel content) := fun cfg => buildFrame_start cfg _ _

theorem Sys2Proof.Laws.EncodeStart.msgAssignChannel (content : List Byte) :
    Sys2Proof.Laws.EncodeStart.Statement (.msgAssignChannel content) := fun cfg => buildFrame_start cfg _ _

theorem Sys2Proof.Laws.EncodeStart.msgSetPeriod (content : List Byte) :
    Sys2Proof.Laws.EncodeStart.Statement (.msgSetPeriod content) := fun cfg => buildFrame_start cfg _ _

theorem Sys2Proof.Laws.EncodeStart.msgSetRfFreq (content : List Byte) :
    Sys2Proof.Laws.EncodeStart.Statement (.msgSetRfFreq content) := fun cfg => buildFrame_start cfg _ _

theorem Sys2Proof.Laws.EncodeStart.msgOpenChannel (content : List Byte) :
    Sys2Proof.Laws.EncodeStart.Statement (.msgOpenChannel content) := fun cfg => buildFrame_start cfg _ _

theorem Sys2Proof.Laws.EncodeStart.msgCloseChannel (content : List Byte) :
    Sys2Proof.Laws.EncodeStart.Statement (.msgCloseChannel content) := fun cfg => buildFrame_start cfg _ _

theorem Sys2Proof.Laws.EncodeStart.msgRequestMessage (content : List Byte) :
    Sys2Proof.Laws.EncodeStart.Statement (.msgRequestMessage content) := fun cfg => buildFrame_start cfg _ _

theorem Sys2Proof.Laws.EncodeStart.msgBroadcastData (content : List Byte) :
    Sys2Proof.Laws.EncodeStart.Statement (.msgBroadcastData content) := fun cfg => buildFrame_start cfg _ _

theorem Sys2Proof.Laws.EncodeStart.msgAcknowledgedData (content : List Byte) :
    Sys2Proof.Laws.EncodeStart.Statement (.msgAcknowledgedData content) := fun cfg => buildFrame_start cfg _ _

theorem Sys2Proof.Laws.EncodeStart.msgBurstData (content : List Byte) :
    Sys2Proof.Laws.EncodeStart.Statement (.msgBurstData content) := fun cfg => buildFrame_start cfg _ _

theorem Sys2Proof.Laws.EncodeStart.msgSetChannelId (content : List Byte) :
    Sys2Proof.Laws.EncodeStart.Statement (.msgSetChannelId content) := fun cfg => buildFrame_start cfg _ _

theorem Sys2Proof.Laws.EncodeStart.msgCapabilities (content : List Byte) :
    Sys2Proof.Laws.EncodeStart.Statement (.msgCapabilities content) := fun cfg => buildFrame_start cfg _ _

theorem Sys2Proof.Laws.EncodeStart.msgSerialNumber (content : List Byte) :
    Sys2Proof.Laws.EncodeStart.Statement (.msgSerialNumber content) := fun cfg => buildFrame_start cfg _ _

theorem Sys2Proof.Laws.EncodeStart.msgStartup (content : List Byte) :
    Sys2Proof.Laws.EncodeStart.Statement (.msgStartup content) := fun cfg => buildFrame_start cfg _ _

theorem Sys2Proof.Laws.EncodeStart.msgUnrecognizedId (id : Byte) (content : List Byte) :
    Sys2Proof.Laws.EncodeStart.Statement (.msgUnrecognizedId id content) := fun cfg => buildFrame_start cfg _ _

theorem Sys2Proof.Laws.EncodeStart.evtRxSearchTimeout (chan initId : Byte) :
    Sys2Proof.Laws.EncodeStart.Statement (.evtRxSearchTimeout chan initId) := fun cfg => buildFrame_start cfg _ _

theorem Sys2Proof.Laws.EncodeStart.evtTransferTxCompleted (chan initId : Byte) :
    Sys2Proof.Laws.EncodeStart.Statement (.evtTransferTxCompleted chan initId) := fun cfg => buildFrame_start cfg _ _

theorem Sys2Proof.Laws.EncodeStart.evtTransferTxFailed (chan initId : Byte) :
    Sys2Proof.Laws.EncodeStart.Statement (.evtTransferTxFailed chan initId) := fun cfg => buildFrame_start cfg _ _

theorem Sys2Proof.Laws.EncodeStart.evtRxFailGoToSearch (chan initId : Byte) :
    Sys2Proof.Laws.EncodeStart.Statement (.evtRxFailGoToSearch chan initId) := fun cfg => buildFrame_start cfg _ _

theorem Sys2Proof.Laws.EncodeStart.engineOpen (n : BitVec 9) (ackTimeout : Option Time) (maxRetries : Option Byte) :
    Sys2Proof.Laws.EncodeStart.Statement (.engineOpen n ackTimeout maxRetries) := fun _ => rfl

theorem Sys2Proof.Laws.EncodeStart.engineClose :
    Sys2Proof.Laws.EncodeStart.Statement .engineClose := fun _ => rfl

theorem Sys2Proof.Laws.EncodeStart.assign (ch chanType network : Byte) :
    Sys2Proof.Laws.EncodeStart.Statement (.assign ch chanType network) := fun _ => rfl

theorem Sys2Proof.Laws.EncodeStart.unassign (ch : Byte) :
    Sys2Proof.Laws.EncodeStart.Statement (.unassign ch) := fun _ => rfl

theorem Sys2Proof.Laws.EncodeStart.setChannelId (ch : Byte) (devNumber : Half) (devType : BitVec 7) (transType : Byte) :
    Sys2Proof.Laws.EncodeStart.Statement (.setChannelId ch devNumber devType transType) := fun _ => rfl

theorem Sys2Proof.Laws.EncodeStart.setRfFreq (ch freq : Byte) :
    Sys2Proof.Laws.EncodeStart.Statement (.setRfFreq ch freq) := fun _ => rfl

theorem Sys2Proof.Laws.EncodeStart.setPeriod (ch : Byte) (period : Half) :
    Sys2Proof.Laws.EncodeStart.Statement (.setPeriod ch period) := fun _ => rfl

theorem Sys2Proof.Laws.EncodeStart.setPairing (ch : Byte) (bit : Bool) :
    Sys2Proof.Laws.EncodeStart.Statement (.setPairing ch bit) := fun _ => rfl

theorem Sys2Proof.Laws.EncodeStart.openCh (ch : Byte) :
    Sys2Proof.Laws.EncodeStart.Statement (.openCh ch) := fun _ => rfl

theorem Sys2Proof.Laws.EncodeStart.closeCh (ch : Byte) :
    Sys2Proof.Laws.EncodeStart.Statement (.closeCh ch) := fun _ => rfl

theorem Sys2Proof.Laws.EncodeStart.sendBroadcast (ch : Byte) (data : Payload) :
    Sys2Proof.Laws.EncodeStart.Statement (.sendBroadcast ch data) := fun _ => rfl

theorem Sys2Proof.Laws.EncodeStart.sendAck (ch : Byte) (data : Payload) :
    Sys2Proof.Laws.EncodeStart.Statement (.sendAck ch data) := fun _ => rfl

theorem Sys2Proof.Laws.EncodeStart.sendBurst (ch : Byte) (seq : BitVec 3) (data : Payload) :
    Sys2Proof.Laws.EncodeStart.Statement (.sendBurst ch seq data) := fun _ => rfl

theorem Sys2Proof.Laws.EncodeStart.request (ch reqId : Byte) :
    Sys2Proof.Laws.EncodeStart.Statement (.request ch reqId) := fun _ => rfl

theorem Sys2Proof.Laws.EncodeStart.getChannel (ch : Byte) :
    Sys2Proof.Laws.EncodeStart.Statement (.getChannel ch) := fun _ => rfl

theorem Sys2Proof.Laws.EncodeStart.getEngine :
    Sys2Proof.Laws.EncodeStart.Statement .getEngine := fun _ => rfl

theorem Sys2Proof.Laws.EncodeStart.rxPoll :
    Sys2Proof.Laws.EncodeStart.Statement .rxPoll := fun _ => rfl

theorem Sys2Proof.Laws.EncodeStart.rxStep :
    Sys2Proof.Laws.EncodeStart.Statement .rxStep := fun _ => rfl

theorem Sys2Proof.Laws.EncodeStart.tick :
    Sys2Proof.Laws.EncodeStart.Statement .tick := fun _ => rfl

theorem Sys2Proof.Laws.EncodeStart.encodeOp (id : Byte) (content : List Byte) :
    Sys2Proof.Laws.EncodeStart.Statement (.encodeOp id content) := fun _ => rfl

theorem Sys2Proof.Laws.EncodeStart.decodeOp (buf : List Byte) :
    Sys2Proof.Laws.EncodeStart.Statement (.decodeOp buf) := fun _ => rfl
end

