-- ==== Sys2Proof/Tests/Slice0.lean ====
section
/-! SUPPORT. The model's own tests: what the well-formedness checks refuse, every constructor's decoding from a word
written out from the spec, one step of every instruction against the vectors of 95_test_vectors, and for every statement
with hypotheses a witness that meets them. -/

namespace Sys2Proof.Tests

open Sys2Proof Sys2Proof.Machine

/-- The data `01 02 03 04 05 06 07 08`. -/
def rising : Payload := ⟨1#8, 2#8, 3#8, 4#8, 5#8, 6#8, 7#8, 8#8⟩

/-- The data `11 22 33 44 55 66 77 88`. -/
def doubled : Payload := ⟨0x11#8, 0x22#8, 0x33#8, 0x44#8, 0x55#8, 0x66#8, 0x77#8, 0x88#8⟩

/-! ### Well-formedness refuses -/

theorem test_wf_default : Config.default.wf = true := by decide
theorem test_wf_lenBias : ({ Config.default with lenBias := 2 } : Config).wf = false := by decide
theorem test_wf_maxContent : ({ Config.default with maxContent := 255 } : Config).wf = false := by decide
theorem test_wf_nCh_low : ({ Config.default with nCh := 0 } : Config).wf = false := by decide
theorem test_wf_nCh_high : ({ Config.default with nCh := 33 } : Config).wf = false := by decide
theorem test_wf_ackTimeout : ({ Config.default with ackTimeout := 0#64 } : Config).wf = false := by decide
theorem test_wf_rxbufCap : ({ Config.default with rxbufCap := 257 } : Config).wf = false := by decide
/-- R6's own bound: twice the largest frame of 258 bytes; the default 512 of the same rule misses it (assumption 8). -/
theorem test_meetsR6 :
    ({ Config.default with rxbufCap := 516 } : Config).meetsR6 = true
    ∧ ({ Config.default with rxbufCap := 515 } : Config).meetsR6 = false ∧ Config.default.meetsR6 = false := by decide
theorem test_wf_ids : ({ Config.default with idStartup := 0x40#8 } : Config).wf = false := by decide
theorem test_wf_events : ({ Config.default with evRxSearchTimeout := 0x08#8 } : Config).wf = false := by decide
theorem test_wf_pairingBit : ({ Config.default with pairingBitPos := 8 } : Config).wf = false := by decide
theorem test_wf_burstBits : ({ Config.default with burstChBits := 9 } : Config).wf = false := by decide
theorem test_wf_content_long : (Instr.msgStartup (List.replicate 255 0#8)).wellFormed .default = false := by
  rw [Instr.wellFormed, Config.contentFits, List.length_replicate]; decide
theorem test_wf_named_event : (Instr.msgChannelEvent [0#8, 1#8, 6#8]).wellFormed .default = false := by decide
theorem test_wf_known_id : (Instr.msgUnrecognizedId 0x4E#8 []).wellFormed .default = false := by decide
theorem test_wf_open_none : (Instr.engineOpen 0#9 (some 50#64) (some 3#8)).wellFormed .default = false := by decide
theorem test_wf_open_many : (Instr.engineOpen 33#9 (some 50#64) (some 3#8)).wellFormed .default = false := by decide
theorem test_wf_open_timeout : (Instr.engineOpen 8#9 (some 0#64) (some 3#8)).wellFormed .default = false := by decide
theorem test_typed_devType : (Message.setChannelId 0#8 0#16 0x80#8 false 0#8).wellTyped .default = false := by decide
theorem test_typed_chan : (Message.burstData 32#8 0#8 rising).wellTyped .default = false := by decide
theorem test_typed_seq : (Message.burstData 0#8 8#8 rising).wellTyped .default = false := by decide

/-! ### Decoding of words written out from the spec: frames from 95_test_vectors 2.1, operation words from R120 -/

theorem test_decode_channelEvent : decodeWire .default [0xA4#8, 0x04#8, 0x40#8, 0x00#8, 0x4B#8, 0x00#8, 0xAB#8]
    = .ok (.msgChannelEvent [0x00#8, 0x4B#8, 0x00#8]) := rfl
theorem test_decode_unassign : decodeWire .default [0xA4#8, 0x02#8, 0x41#8, 0x00#8, 0xE7#8]
    = .ok (.msgUnassignChannel [0x00#8]) := rfl
theorem test_decode_assign : decodeWire .default [0xA4#8, 0x04#8, 0x42#8, 0x02#8, 0x00#8, 0x01#8, 0xE1#8]
    = .ok (.msgAssignChannel [0x02#8, 0x00#8, 0x01#8]) := rfl
theorem test_decode_setPeriod : decodeWire .default [0xA4#8, 0x04#8, 0x43#8, 0x00#8, 0x86#8, 0x1F#8, 0x7A#8]
    = .ok (.msgSetPeriod [0x00#8, 0x86#8, 0x1F#8]) := rfl
theorem test_decode_setRfFreq : decodeWire .default [0xA4#8, 0x03#8, 0x45#8, 0x00#8, 0x39#8, 0xDB#8]
    = .ok (.msgSetRfFreq [0x00#8, 0x39#8]) := rfl
theorem test_decode_open : decodeWire .default [0xA4#8, 0x02#8, 0x4B#8, 0x00#8, 0xED#8]
    = .ok (.msgOpenChannel [0x00#8]) := rfl
theorem test_decode_close : decodeWire .default [0xA4#8, 0x02#8, 0x4C#8, 0x00#8, 0xEA#8]
    = .ok (.msgCloseChannel [0x00#8]) := rfl
theorem test_decode_request : decodeWire .default [0xA4#8, 0x03#8, 0x4D#8, 0x00#8, 0x54#8, 0xBE#8]
    = .ok (.msgRequestMessage [0x00#8, 0x54#8]) := rfl
theorem test_decode_broadcast :
    decodeWire .default [0xA4#8, 0x0A#8, 0x4E#8, 0#8, 1#8, 2#8, 3#8, 4#8, 5#8, 6#8, 7#8, 8#8, 0xE8#8]
      = .ok (.msgBroadcastData (0#8 :: rising.bytes)) := rfl
theorem test_decode_acknowledged :
    decodeWire .default
        [0xA4#8, 0x0A#8, 0x4F#8, 0#8, 0x11#8, 0x22#8, 0x33#8, 0x44#8, 0x55#8, 0x66#8, 0x77#8, 0x88#8, 0x69#8]
      = .ok (.msgAcknowledgedData (0#8 :: doubled.bytes)) := rfl
theorem test_decode_burst :
    decodeWire .default [0xA4#8, 0x0A#8, 0x50#8, 0xA3#8, 1#8, 2#8, 3#8, 4#8, 5#8, 6#8, 7#8, 8#8, 0x55#8]
      = .ok (.msgBurstData (0xA3#8 :: rising.bytes)) := rfl
theorem test_decode_setChannelId :
    decodeWire .default [0xA4#8, 0x06#8, 0x51#8, 0x00#8, 0x39#8, 0x30#8, 0x78#8, 0x05#8, 0x87#8]
      = .ok (.msgSetChannelId [0x00#8, 0x39#8, 0x30#8, 0x78#8, 0x05#8]) := rfl
theorem test_decode_capabilities :
    decodeWire .default [0xA4#8, 0x05#8, 0x54#8, 0x08#8, 0x03#8, 0x00#8, 0xBA#8, 0x44#8]
      = .ok (.msgCapabilities [0x08#8, 0x03#8, 0x00#8, 0xBA#8]) := rfl
theorem test_decode_serialNumber :
    decodeWire .default [0xA4#8, 0x05#8, 0x61#8, 0x78#8, 0x56#8, 0x34#8, 0x12#8, 0xC8#8]
      = .ok (.msgSerialNumber [0x78#8, 0x56#8, 0x34#8, 0x12#8]) := rfl
theorem test_decode_startup : decodeWire .default [0xA4#8, 0x01#8, 0x6F#8, 0xCA#8] = .ok (.msgStartup []) := rfl
theorem test_decode_unrecognized : decodeWire .default [0xA4#8, 0x02#8, 0x99#8, 0x00#8, 0x3F#8]
    = .ok (.msgUnrecognizedId 0x99#8 [0x00#8]) := rfl
theorem test_decode_searchTimeout : decodeWire .default [0xA4#8, 0x04#8, 0x40#8, 0x00#8, 0x01#8, 0x01#8, 0xE0#8]
    = .ok (.evtRxSearchTimeout 0#8 1#8) := rfl
theorem test_decode_completed : decodeWire .default [0xA4#8, 0x04#8, 0x40#8, 0x00#8, 0x01#8, 0x05#8, 0xE4#8]
    = .ok (.evtTransferTxCompleted 0#8 1#8) := rfl
theorem test_decode_failed : decodeWire .default [0xA4#8, 0x04#8, 0x40#8, 0x00#8, 0x01#8, 0x06#8, 0xE7#8]
    = .ok (.evtTransferTxFailed 0#8 1#8) := rfl
theorem test_decode_goToSearch : decodeWire .default [0xA4#8, 0x04#8, 0x40#8, 0x00#8, 0x01#8, 0x08#8, 0xE9#8]
    = .ok (.evtRxFailGoToSearch 0#8 1#8) := rfl
theorem test_decode_bad_checksum : decodeWire .default [0xA4#8, 0x02#8, 0x4B#8, 0x00#8, 0xEC#8]
    = .error .notAFrame := rfl

theorem test_decode_ops_host :
    decodePort .host [0x00#8, 0x08#8, 0#8, 50#8, 0#8, 0#8, 0#8, 0#8, 0#8, 0#8, 0#8, 3#8]
      = .ok (.engineOpen 8#9 (some 50#64) (some 3#8))
    ∧ decodePort .host [0x01#8] = .ok .engineClose
    ∧ decodePort .host [0x02#8, 2#8, 0#8, 1#8] = .ok (.assign 2#8 0#8 1#8)
    ∧ decodePort .host [0x03#8, 2#8] = .ok (.unassign 2#8)
    ∧ decodePort .host [0x04#8, 0#8, 0x39#8, 0x30#8, 0x78#8, 5#8] = .ok (.setChannelId 0#8 12345#16 120#7 5#8)
    ∧ decodePort .host [0x05#8, 0#8, 57#8] = .ok (.setRfFreq 0#8 57#8)
    ∧ decodePort .host [0x06#8, 0#8, 0x86#8, 0x1F#8] = .ok (.setPeriod 0#8 8070#16)
    ∧ decodePort .host [0x07#8, 2#8, 1#8] = .ok (.setPairing 2#8 true) := by
  refine ⟨rfl, rfl, rfl, rfl, rfl, rfl, rfl, rfl⟩
theorem test_decode_ops_send :
    decodePort .host [0x08#8, 2#8] = .ok (.openCh 2#8)
    ∧ decodePort .host [0x09#8, 2#8] = .ok (.closeCh 2#8)
    ∧ decodePort .host (0x0A#8 :: 0#8 :: rising.bytes) = .ok (.sendBroadcast 0#8 rising)
    ∧ decodePort .host (0x0B#8 :: 0#8 :: doubled.bytes) = .ok (.sendAck 0#8 doubled)
    ∧ decodePort .host (0x0C#8 :: 3#8 :: 5#8 :: rising.bytes) = .ok (.sendBurst 3#8 5#3 rising)
    ∧ decodePort .host [0x0D#8, 0#8, 0x54#8] = .ok (.request 0#8 0x54#8)
    ∧ decodePort .host [0x0E#8, 7#8] = .ok (.getChannel 7#8)
    ∧ decodePort .host [0x0F#8] = .ok .getEngine := by
  refine ⟨rfl, rfl, rfl, rfl, rfl, rfl, rfl, rfl⟩
theorem test_decode_ops_service :
    decodePort .service [0x10#8] = .ok .rxPoll ∧ decodePort .service [0x11#8] = .ok .rxStep
    ∧ decodePort .service [0x12#8] = .ok .tick
    ∧ decodePort .codec [0x13#8, 0x99#8, 0#8] = .ok (.encodeOp 0x99#8 [0#8])
    ∧ decodePort .codec [0x14#8, 0xA4#8] = .ok (.decodeOp [0xA4#8]) := by
  refine ⟨rfl, rfl, rfl, rfl, rfl⟩
theorem test_decode_ops_refused :
    decodePort .host [] = .error .noOpcode ∧ decodePort .host [0x15#8] = .error .unassignedOpcode
    ∧ decodePort .host [0x12#8] = .error .unassignedOpcode ∧ decodePort .host [0x08#8] = .error .operandCount
    ∧ decodePort .host [0x07#8, 0#8, 2#8] = .error .operandWidth := by
  refine ⟨rfl, rfl, rfl, rfl, rfl⟩

/-- `ENGINE_OPEN` with both policy operands absent, one of them, and a number of bytes that is none of the forms. -/
theorem test_decode_open_defaults :
    decodePort .host [0x00#8, 0x08#8, 0#8] = .ok (.engineOpen 8#9 none none)
    ∧ decodePort .host [0x00#8, 0x08#8, 0#8, 3#8] = .ok (.engineOpen 8#9 none (some 3#8))
    ∧ decodePort .host [0x00#8, 0x08#8, 0#8, 50#8, 0#8, 0#8, 0#8, 0#8, 0#8, 0#8, 0#8]
      = .ok (.engineOpen 8#9 (some 50#64) none)
    ∧ decodePort .host [0x00#8, 0x08#8, 0#8, 50#8, 3#8] = .error .operandCount := by
  refine ⟨rfl, rfl, rfl, rfl⟩

/-- A table word without content, and what a step makes of it where it is placed. -/
theorem test_tableWord :
    decodeTableWord 24 0xA40040 = some (.msgChannelEvent [0#8, 0#8, 0#8]) ∧ decodeTableWord 8 0x12 = some .tick
    ∧ ∃ t, step (State.reset.withFetchWord 24 0xA40054) = .next t
        ∧ t.out = [.note (.system 0x54#8 [])] ∧ t.rxbuf = [] := ⟨rfl, rfl, _, rfl, rfl, rfl⟩

/-- `DECODE` of dirty and degenerate input (95_test_vectors 2.2). -/
theorem test_verdicts :
    decodeFrame .default [0#8, 1#8] = .needMoreData 2
    ∧ decodeFrame .default [0#8, 0xFF#8, 0xA4#8, 2#8, 0x4B#8, 0#8, 0xED#8] = .frame 0x4B#8 [0#8] 7
    ∧ decodeFrame .default [0x55#8, 0xA4#8, 2#8, 0x4B#8, 0#8, 0xEC#8] = .checksumError 1
    ∧ decodeFrame .default [0xA4#8, 0#8] = .checksumError 0
    ∧ decodeFrame { Config.default with lenBias := 0 } [0xA4#8, 0#8] = .needMoreData 0
    ∧ decodeFrame .default [0xA4#8, 0xA4#8, 2#8, 0x4B#8, 0#8, 0xED#8] = .needMoreData 0
    ∧ decodeFrame { Config.default with lenBias := 0 } [0xA4#8, 1#8, 0x4B#8, 0#8, 0xEE#8] = .frame 0x4B#8 [0#8] 5 := by
  refine ⟨rfl, rfl, rfl, rfl, rfl, rfl, rfl⟩

/-! ### Small states -/

/-- A slot in a given state, nothing configured. -/
def slotIn (st : ChState) : Channel := { Channel.fresh with state := st }

/-- The opened engine with channel 0 in a given state. -/
def at0 (st : ChState) : State := { State.reset with ch := slotIn st :: List.replicate 7 Channel.fresh }

/-- Channels 1 and 3 in `SEARCHING` (vectors A7, A8). -/
def at13 : State :=
  { State.reset with
    ch := [Channel.fresh, slotIn .searching, Channel.fresh, slotIn .searching] ++ List.replicate 4 Channel.fresh }

/-- The acknowledged-data frame of the vectors on channel 0. -/
def ackFrame : Frame :=
  [0xA4#8, 0x0A#8, 0x4F#8, 0#8, 0x11#8, 0x22#8, 0x33#8, 0x44#8, 0x55#8, 0x66#8, 0x77#8, 0x88#8, 0x69#8]

/-- The same on channel 1 (vector A7). -/
def ackFrame1 : Frame :=
  [0xA4#8, 0x0A#8, 0x4F#8, 1#8, 0x11#8, 0x22#8, 0x33#8, 0x44#8, 0x55#8, 0x66#8, 0x77#8, 0x88#8, 0x68#8]

/-- The same on channel 3 (vector A7). -/
def ackFrame3 : Frame :=
  [0xA4#8, 0x0A#8, 0x4F#8, 3#8, 0x11#8, 0x22#8, 0x33#8, 0x44#8, 0x55#8, 0x66#8, 0x77#8, 0x88#8, 0x6A#8]

/-- A send in flight. -/
def inFlight (f : Frame) (sentAt : Time) (retries : Byte) : Pending :=
  { valid := true, frame := f, kind := .ack, sentAt := sentAt, retries := retries }

/-- Channel 0 with the send of the vectors in flight since time 100, the last operation at that time too. -/
def sending (st : ChState) (retries : Byte) : State :=
  { at0 st with
    pa := inFlight ackFrame 100#64 retries :: List.replicate 7 Pending.fresh
    tLast := 100#64
    inp := { Inputs.idle with now := 100#64 } }

/-- Vector A8's start: sends in flight on channels 1 and 3, resent once at 151. -/
def sending13 : State :=
  { at13 with
    pa := [Pending.fresh, inFlight ackFrame1 151#64 1#8, Pending.fresh, inFlight ackFrame3 151#64 1#8]
      ++ List.replicate 4 Pending.fresh
    tLast := 151#64 }

/-- The same with channel 3's retries used up. -/
def mixed13 : State :=
  { sending13 with
    pa := [Pending.fresh, inFlight ackFrame1 151#64 1#8, Pending.fresh, inFlight ackFrame3 151#64 3#8]
      ++ List.replicate 4 Pending.fresh }

/-- The time of the operation. -/
def atTime (now : Time) (s : State) : State := { s with inp := { s.inp with now := now } }

/-- The transport's answers to the operation's writes. -/
def answering (answers : List Bool) (s : State) : State := { s with inp := { s.inp with txAnswers := answers } }

/-- What the result port and the outputs show after an answer. -/
def report : Answer → Option (Option Result × List Output)
  | .next s => some (s.result, s.out)
  | _ => none

/-- A field of the next state. -/
def after {α : Type} (f : State → α) : Answer → Option α
  | .next s => some (f s)
  | _ => none

/-- The channel states of the next state. -/
def states : Answer → Option (List ChState) := after fun s => s.ch.map Channel.state

/-- The head slot of the next state. -/
def slot0 : Answer → Option (Option Channel) := after fun s => s.ch[0]?

/-- The head pending entry of the next state. -/
def pend0 : Answer → Option (Option Pending) := after fun s => s.pa[0]?

/-- Channel 0's state after an answer. -/
def state0 (a : Answer) : Option (Option ChState) := (slot0 a).map fun o => o.map Channel.state

/-- `RX_STEP` on a buffer. -/
def rx (bytes : List Byte) (s : State) : Answer := exec .rxStep { s with rxbuf := bytes }

/-! ### One step of every host operation (95_test_vectors 2.4, 2.6, 2.7) -/

theorem test_engineOpen :
    after (fun s => (s.eng, s.nCh, s.tLast, s.ch.length, s.pa.length))
        (exec (.engineOpen 32#9 (some 1#64) (some 0#8)) (atTime 7#64 (.powerOn .default)))
      = some (.opened, 32#9, 7#64, 32, 32) := by decide
/-- R6 and R23: the defaults are 50 and 3, and an instance's parameters otherwise. -/
theorem test_engineOpen_defaults :
    after (fun s => (s.ackTimeout, s.maxRetries)) (exec (.engineOpen 8#9 none none) (.powerOn .default))
      = some (50#64, 3#8)
    ∧ after (fun s => (s.ackTimeout, s.maxRetries))
        (exec (.engineOpen 8#9 none (some 1#8)) (.powerOn { Config.default with ackTimeout := 7#64, maxRetries := 9#8 }))
      = some (7#64, 1#8) := by decide
theorem test_engineOpen_fails :
    after (fun s => (s.eng, s.nCh, s.xfault, s.result, s.out))
        (exec (.engineOpen 8#9 (some 50#64) (some 3#8))
          { State.powerOn .default with inp := { Inputs.idle with openOk := false } })
      = some (.closed, 0#9, true, some (.transport none), [.transportOpen false, .note (.transportFail none)]) := by
  decide
theorem test_engineClose :
    report (exec .engineClose (sending .searching 0#8))
      = some (some (.ok .none), [.note (.ackResolved 0#8 .cancelled), .transportClose]) := by decide
theorem test_assign :
    report (exec (.assign 0#8 0#8 0#8) (at0 .unassigned))
      = some (some (.ok .none), [.tx [0xA4#8, 4#8, 0x42#8, 0#8, 0#8, 0#8, 0xE2#8] true])
    ∧ state0 (exec (.assign 0#8 0#8 0#8) (at0 .unassigned)) = some (some .assigned) := by decide
theorem test_assign_refused :
    report (exec (.assign 0#8 0#8 0#8) (answering [false] (at0 .unassigned)))
      = some (some (.transport (some 0#8)),
          [.tx [0xA4#8, 4#8, 0x42#8, 0#8, 0#8, 0#8, 0xE2#8] false, .note (.transportFail (some 0#8))])
    ∧ slot0 (exec (.assign 0#8 0#8 0#8) (answering [false] (at0 .unassigned)))
      = some (some { Channel.fresh with xfault := true }) := by decide
theorem test_unassign :
    slot0 (exec (.unassign 0#8)
        { at0 .closed with ch := [{ slotIn .closed with idSet := true, pairing := true, xfault := true }] })
      = some (some Channel.fresh)
    ∧ report (exec (.unassign 0#8) (at0 .closed))
      = some (some (.ok .none), [.tx [0xA4#8, 2#8, 0x41#8, 0#8, 0xE7#8] true]) := by decide
theorem test_setChannelId :
    report (exec (.setChannelId 0#8 12345#16 120#7 5#8) (at0 .assigned))
      = some (some (.ok .none),
          [.tx [0xA4#8, 6#8, 0x51#8, 0#8, 0x39#8, 0x30#8, 0x78#8, 5#8, 0x87#8] true]) := by decide
theorem test_setChannelId_pairing :
    report (exec (.setChannelId 0#8 12345#16 120#7 5#8)
        { at0 .assigned with ch := [{ slotIn .assigned with pairing := true }] })
      = some (some (.ok .none),
          [.tx [0xA4#8, 6#8, 0x51#8, 0#8, 0x39#8, 0x30#8, 0xF8#8, 5#8, 0x07#8] true])
    -- A device type on the pairing bit (log entry 19): one octet of the frame is free, the rest is as R162 says.
    ∧ slot0 (exec (.setChannelId 0#8 12345#16 0x40#7 5#8)
        { at0 .assigned with cfg := { Config.default with pairingBitPos := 6 } })
      = some (some { slotIn .assigned with devNumber := 12345#16, devType := 0x40#7, transType := 5#8, idSet := true }) :=
  ⟨by decide, rfl⟩
theorem test_setRfFreq :
    report (exec (.setRfFreq 0#8 57#8) (at0 .assigned))
      = some (some (.ok .none), [.tx [0xA4#8, 3#8, 0x45#8, 0#8, 0x39#8, 0xDB#8] true]) := by decide
theorem test_setPeriod :
    report (exec (.setPeriod 0#8 8070#16) (at0 .assigned))
      = some (some (.ok .none), [.tx [0xA4#8, 4#8, 0x43#8, 0#8, 0x86#8, 0x1F#8, 0x7A#8] true]) := by decide
theorem test_setPairing :
    slot0 (exec (.setPairing 0#8 true) (at0 .unassigned)) = some (some { Channel.fresh with pairing := true })
    ∧ report (exec (.setPairing 0#8 true) (at0 .searching))
      = some (some (.invalidState 0#8 .searching), []) := by decide
theorem test_open :
    report (exec (.openCh 0#8) (at0 .assigned))
      = some (some (.ok .none), [.tx [0xA4#8, 2#8, 0x4B#8, 0#8, 0xED#8] true])
    ∧ state0 (exec (.openCh 0#8) (at0 .assigned)) = some (some .searching) := by decide
theorem test_open_range : report (exec (.openCh 255#8) (at0 .assigned)) = some (some (.unknownChannel 255#8), []) := by
  decide
theorem test_close :
    report (exec (.closeCh 0#8) (sending .tracking 0#8))
      = some (some (.ok .none),
          [.tx [0xA4#8, 2#8, 0x4C#8, 0#8, 0xEA#8] true, .note (.ackResolved 0#8 .cancelled)])
    ∧ state0 (exec (.closeCh 0#8) (sending .tracking 0#8)) = some (some .closed) := by decide
theorem test_sendBroadcast :
    report (exec (.sendBroadcast 0#8 rising) (at0 .tracking))
      = some (some (.ok .none),
          [.tx [0xA4#8, 0x0A#8, 0x4E#8, 0#8, 1#8, 2#8, 3#8, 4#8, 5#8, 6#8, 7#8, 8#8, 0xE8#8] true]) := by decide
theorem test_sendAck :
    report (exec (.sendAck 0#8 doubled) (atTime 100#64 (at0 .searching)))
      = some (some (.ok (.handle 0#8)), [.tx ackFrame true])
    ∧ pend0 (exec (.sendAck 0#8 doubled) (atTime 100#64 (at0 .searching)))
      = some (some (inFlight ackFrame 100#64 0#8)) := by decide
theorem test_sendAck_in_progress :
    report (exec (.sendAck 0#8 rising) (sending .searching 0#8)) = some (some (.sendInProgress 0#8), [])
    ∧ report (exec (.sendAck 0#8 rising) (at0 .closed)) = some (some (.channelNotOpen 0#8 .closed), []) := by decide
theorem test_sendBurst :
    report (exec (.sendBurst 3#8 5#3 rising) at13)
      = some (some (.ok (.handle 3#8)),
          [.tx [0xA4#8, 0x0A#8, 0x50#8, 0xA3#8, 1#8, 2#8, 3#8, 4#8, 5#8, 6#8, 7#8, 8#8, 0x55#8] true])
    -- A sequence number without room above the channel bits (log entry 19): the send goes out and is recorded.
    ∧ after State.result (exec (.sendBurst 3#8 4#3 rising) { at13 with cfg := { Config.default with burstChBits := 6 } })
      = some (some (.ok (.handle 3#8))) := ⟨by decide, rfl⟩
theorem test_request :
    report (exec (.request 0#8 0x54#8) State.reset)
      = some (some (.ok .none), [.tx [0xA4#8, 3#8, 0x4D#8, 0#8, 0x54#8, 0xBE#8] true]) := by decide
theorem test_request_refused :
    after (fun s => (s.xfault, s.result)) (exec (.request 0#8 0x61#8) (answering [false] State.reset))
      = some (true, some (.transport none)) := by decide
theorem test_getChannel : report (exec (.getChannel 8#8) State.reset) = some (some (.unknownChannel 8#8), []) := by decide
theorem test_getChannel_state :
    after (fun s => match s.result with | some (.ok (.channel v)) => some (v.state, v.pending) | _ => none)
        (exec (.getChannel 7#8) State.reset) = some (some (.unassigned, false)) := rfl
theorem test_getEngine :
    report (exec .getEngine State.reset)
      = some (some (.ok (.engine ⟨.opened, 8#9, 50#64, 3#8, false, 0#64, 0⟩)), []) := by decide

/-! ### Service and codec operations (2.3, 2.6, 2.7) -/

theorem test_rxPoll :
    after (fun s => (s.result, s.rxbuf, s.wire))
        (exec .rxPoll { State.reset with wire := [0xA4#8, 2#8, 0x4B#8], inp := { Inputs.idle with read := .upTo 2 } })
      = some (some (.ok (.count 2)), [0xA4#8, 2#8], [0x4B#8]) := by decide
theorem test_rxPoll_fails :
    after (fun s => (s.result, s.xfault)) (exec .rxPoll { State.reset with inp := { Inputs.idle with read := .failed } })
      = some (some (.transport none), true) := by decide
/-- R122, at the state after reset: `RX A4 01 6F CA` polls its four bytes and delivers them; a byte the transport held
before stays there. -/
theorem test_rxProgram :
    after (fun s => (s.result, s.out, s.rxbuf, s.wire))
        (rxProgram [0xA4#8, 1#8, 0x6F#8, 0xCA#8] { State.reset with wire := [0x55#8] })
      = some (some .needMoreData, [.note (.system 0x6F#8 [])], [], [0x55#8]) := by decide
theorem test_rxStep_checksum :
    after (fun s => (s.result, s.rxbuf, s.rxPos)) (rx [0#8, 0xA4#8, 2#8, 0x4B#8, 0#8, 0xEC#8] (at0 .tracking))
      = some (some (.checksum 1#64), [2#8, 0x4B#8, 0#8, 0xEC#8], 2#64) := by decide
theorem test_rxStep_dispatch :
    report (rx [0xA4#8, 2#8, 0x4B#8, 0#8, 0xED#8] (at0 .searching))
      = some (some (.dropped .unexpected), [.note (.warning (.unexpected 0x4B#8 0#8))]) := by decide
theorem test_tick_due :
    report (exec .tick (atTime 149#64 (sending .searching 0#8))) = some (some (.ok .none), [])
    ∧ report (exec .tick (atTime 150#64 (sending .searching 0#8))) = some (some (.ok .none), [.tx ackFrame true])
    ∧ pend0 (exec .tick (atTime 150#64 (sending .searching 0#8)))
      = some (some (inFlight ackFrame 150#64 1#8)) := by decide
theorem test_tick_survives :
    report (exec .tick (answering [false, true] (atTime 201#64 sending13)))
      = some (some (.transport (some 1#8)),
          [.tx ackFrame1 false, .note (.transportFail (some 1#8)), .note (.ackResolved 1#8 .transport),
            .tx ackFrame3 true]) := by decide
/-- One due send alone, refused; and a refused resend beside an exhausted send. -/
theorem test_tick_refused :
    report (exec .tick (answering [false] (atTime 150#64 (sending .searching 0#8))))
      = some (some (.transport (some 0#8)),
          [.tx ackFrame false, .note (.transportFail (some 0#8)), .note (.ackResolved 0#8 .transport)])
    ∧ report (exec .tick (answering [false] (atTime 201#64 mixed13)))
      = some (some (.transport (some 1#8)),
          [.tx ackFrame1 false, .note (.transportFail (some 1#8)), .note (.ackResolved 1#8 .transport),
            .note (.ackResolved 3#8 .failed)]) := by decide
theorem test_encode :
    report (exec (.encodeOp 0x6F#8 []) State.reset) = some (some (.ok (.frame [0xA4#8, 1#8, 0x6F#8, 0xCA#8])), [])
    ∧ report (exec (.encodeOp 0x99#8 (List.replicate 10 0#8)) State.reset)
      = some (some (.encoding .unrecognizedId), []) := by decide
/-- `RXMSG` of a message without a frame (log entry 20): `ENCODE`'s answer, and nothing while the engine is closed. -/
theorem test_rxMessage_unencodable :
    after (fun t => (t.result, t.tLast, t.rxbuf))
        (rxMessage (.startup (List.replicate 10 0#8)) (atTime 7#64 State.reset))
      = some (some (.encoding .tooLong), 7#64, [])
    ∧ rxMessage (.startup (List.replicate 10 0#8)) (.powerOn .default)
      = .refused .engineClosed := ⟨by decide, rfl⟩
theorem test_decodeOp :
    report (exec (.decodeOp [0xA4#8, 2#8, 0x4B#8, 0#8, 0xED#8, 0xA4#8, 7#8]) State.reset)
      = some (some (.decoded (.frame 0x4B#8 [0#8] 5)), []) := by decide

/-! ### One step of every frame row (2.5, 2.6) -/

theorem test_channelEvent :
    report (exec (.msgChannelEvent [0#8, 1#8, 3#8]) (at0 .assigned))
      = some (some (.ok .none), [.note (.channelEvent 0#8 1#8 3#8)]) := by decide
theorem test_inbound_unassign :
    report (exec (.msgUnassignChannel [0#8]) (at0 .tracking))
      = some (some (.dropped .unexpected), [.note (.warning (.unexpected 0x41#8 0#8))]) := by decide
theorem test_inbound_assign :
    report (exec (.msgAssignChannel [0#8, 0#8, 0#8]) (at0 .unassigned))
      = some (some (.unknownChannel 0#8), [.note (.warning (.unknownChannel 0x42#8 0#8))]) := by decide
theorem test_inbound_setPeriod :
    report (exec (.msgSetPeriod [0#8, 0x86#8]) (at0 .assigned))
      = some (some (.dropped .malformed), [.note (.warning (.malformed 0x43#8 (some 0#8)))]) := by decide
theorem test_inbound_setRfFreq :
    report (exec (.msgSetRfFreq [0#8, 57#8]) (at0 .closed)) = some (some (.dropped .closed), []) := by decide
theorem test_inbound_open :
    report (exec (.msgOpenChannel [0#8]) (at0 .assigned))
      = some (some (.dropped .unexpected), [.note (.warning (.unexpected 0x4B#8 0#8))]) := by decide
theorem test_inbound_close :
    report (exec (.msgCloseChannel [8#8]) (at0 .tracking))
      = some (some (.unknownChannel 8#8), [.note (.warning (.unknownChannel 0x4C#8 8#8))]) := by decide
theorem test_inbound_request :
    report (exec (.msgRequestMessage []) (at0 .tracking))
      = some (some (.dropped .malformed), [.note (.warning (.malformed 0x4D#8 none))]) := by decide
theorem test_broadcast :
    report (exec (.msgBroadcastData (0#8 :: rising.bytes)) (at0 .searching))
      = some (some (.ok .none), [.note (.deviceFound 0#8), .note (.data 0#8 .broadcast 0#8 rising)])
    ∧ state0 (exec (.msgBroadcastData (0#8 :: rising.bytes)) (at0 .searching)) = some (some .tracking) := by decide
theorem test_acknowledged :
    report (exec (.msgAcknowledgedData (0#8 :: doubled.bytes)) (at0 .tracking))
      = some (some (.ok .none), [.note (.data 0#8 .acknowledged 0#8 doubled)]) := by decide
theorem test_burst :
    report (exec (.msgBurstData (0xA0#8 :: rising.bytes)) (at0 .tracking))
      = some (some (.ok .none), [.note (.data 0#8 .burst 5#8 rising)])
    ∧ report (exec (.msgBurstData (0xA3#8 :: rising.bytes)) (at0 .tracking))
      = some (some (.unknownChannel 3#8), [.note (.warning (.unknownChannel 0x50#8 3#8))]) := by decide
theorem test_inbound_setChannelId :
    report (exec (.msgSetChannelId [0#8, 0#8, 0#8, 0#8, 0#8]) (at0 .searching))
      = some (some (.dropped .unexpected), [.note (.warning (.unexpected 0x51#8 0#8))]) := by decide
theorem test_capabilities :
    report (exec (.msgCapabilities [8#8, 3#8, 0#8, 0xBA#8]) State.reset)
      = some (some (.ok .none), [.note (.system 0x54#8 [8#8, 3#8, 0#8, 0xBA#8])]) := by decide
theorem test_serialNumber :
    report (exec (.msgSerialNumber [0x78#8, 0x56#8, 0x34#8, 0x12#8]) State.reset)
      = some (some (.ok .none), [.note (.system 0x61#8 [0x78#8, 0x56#8, 0x34#8, 0x12#8])]) := by decide
theorem test_startup :
    report (exec (.msgStartup []) State.reset) = some (some (.ok .none), [.note (.system 0x6F#8 [])]) := by decide
theorem test_unrecognized :
    report (exec (.msgUnrecognizedId 0x99#8 [0#8]) State.reset)
      = some (some (.dropped .unknownId), [.note (.warning (.unknownId 0x99#8))]) := by decide
theorem test_searchTimeout :
    report (exec (.evtRxSearchTimeout 0#8 1#8) (sending .searching 0#8))
      = some (some (.ok .none), [.note (.channelEvent 0#8 1#8 1#8), .note (.ackResolved 0#8 .cancelled)])
    ∧ state0 (exec (.evtRxSearchTimeout 0#8 1#8) (sending .searching 0#8)) = some (some .closed) := by decide
theorem test_completed :
    report (exec (.evtTransferTxCompleted 0#8 1#8) (sending .searching 2#8))
      = some (some (.ok .none), [.note (.channelEvent 0#8 1#8 5#8), .note (.ackResolved 0#8 .success)]) := by decide
theorem test_failed_resends :
    report (exec (.evtTransferTxFailed 0#8 1#8) (atTime 101#64 (sending .searching 0#8)))
      = some (some (.ok .none), [.note (.channelEvent 0#8 1#8 6#8), .tx ackFrame true])
    ∧ pend0 (exec (.evtTransferTxFailed 0#8 1#8) (atTime 101#64 (sending .searching 0#8)))
      = some (some (inFlight ackFrame 101#64 1#8)) := by decide
theorem test_failed_exhausted :
    report (exec (.evtTransferTxFailed 0#8 1#8) (sending .searching 3#8))
      = some (some (.ok .none), [.note (.channelEvent 0#8 1#8 6#8), .note (.ackResolved 0#8 .failed)]) := by decide
theorem test_goToSearch :
    state0 (exec (.evtRxFailGoToSearch 0#8 1#8) (at0 .tracking)) = some (some .searching)
    ∧ state0 (exec (.evtRxFailGoToSearch 0#8 1#8) (at0 .assigned)) = some (some .assigned) := by decide

/-! ### Witnesses: for every statement with hypotheses, states and operands that meet them -/

/-- The engine with a `MAX_CONTENT` that refuses every content byte. -/
def cramped (s : State) : State := { s with cfg := { s.cfg with maxContent := 0 } }

/-- A broadcast frame's raw pair, used as content of exactly `MAX_CONTENT`. -/
def nine : List Byte := List.replicate 9 0#8

theorem witness_XorFoldLaws : 0 < [0x55#8, 0xAA#8].length ∧ 1 < [0x55#8, 0xAA#8].length ∧ 7 < 8 := by decide

theorem witness_EncodeBuildsFrameOrRefuses :
    (0x99#8 ∉ Config.default.ids) ∧ (0x4E#8 ∈ Config.default.ids ∧ Config.default.maxContent < (0#8 :: nine).length)
    ∧ (0x4E#8 ∈ Config.default.ids ∧ nine.length ≤ Config.default.maxContent)
    ∧ (9 ≤ Config.default.maxContent ∧ (Message.broadcastData 0#8 rising).kind.bearsChannel = true)
    ∧ (State.reset.Ready ∧ encodeFrame State.reset.cfg 0x6F#8 [] = .ok [0xA4#8, 1#8, 0x6F#8, 0xCA#8])
    ∧ (State.reset.Ready ∧ encodeFrame State.reset.cfg 0x99#8 [] = .error .unrecognizedId) :=
  ⟨by decide, by decide, by decide, by decide, ⟨⟨rfl, by decide⟩, rfl⟩, ⟨⟨rfl, by decide⟩, rfl⟩⟩

theorem witness_DecodeFindsFrames :
    State.reset.Ready
    ∧ (Config.default.wf = true ∧ encodeFrame .default 0x6F#8 [] = .ok [0xA4#8, 1#8, 0x6F#8, 0xCA#8])
    ∧ (Config.default.wf = true ∧ (Message.openChannel 0#8).wellTyped .default = true
        ∧ encodeMsg .default (.openChannel 0#8) = .ok [0xA4#8, 2#8, 0x4B#8, 0#8, 0xED#8])
    ∧ decodeFrame .default [0xA4#8, 1#8, 0x6F#8, 0xCA#8] = .frame 0x6F#8 [] 4
    ∧ decodeFrame .default [0xA4#8, 0#8] = .checksumError 0
    ∧ (decodeFrame .default [0#8, 0xA4#8] = .needMoreData 1 ∧ 1 < [0#8, 0xA4#8].length)
    ∧ (syncIndex .default (0xA4#8 :: List.replicate 257 0#8) < (0xA4#8 :: List.replicate 257 0#8).length
        ∧ 255 - Config.default.lenBias + 4
            ≤ (0xA4#8 :: List.replicate 257 0#8).length - syncIndex .default (0xA4#8 :: List.replicate 257 0#8))
    ∧ (Config.default.syncByte ∉ [0#8, 0xFF#8] ∧ (List.replicate 254 0#8).length + Config.default.lenBias ≤ 255) := by
  refine ⟨⟨rfl, by decide⟩, ⟨by decide, rfl⟩, ⟨by decide, by decide, rfl⟩, rfl, rfl, ⟨rfl, by decide⟩, ?_, by decide, ?_⟩
  · rw [show syncIndex .default (0xA4#8 :: List.replicate 257 0#8) = 0 from rfl, List.length_cons, List.length_replicate]
    decide
  · rw [List.length_replicate]; decide

theorem witness_SingleBitCorruptionDetected :
    (([] : List Byte).length + Config.default.lenBias ≤ 255 ∧ 2 ≤ 2 ∧ 2 < ([] : List Byte).length + 4 ∧ 0 < 8)
    ∧ (nine.length + Config.default.lenBias ≤ 255 ∧ 2 ≤ 12 ∧ 12 < nine.length + 4 ∧ 7 < 8)
    ∧ (0#8).toNat < Config.default.lenBias := by decide

theorem witness_ParseInvertsContent :
    Config.default.wf = true ∧ (Message.setChannelId 0#8 12345#16 0x7F#8 true 5#8).wellTyped .default = true
    ∧ parse .default 0x4B#8 [0#8] = .msg (.openChannel 0#8) ∧ parse .default 0x99#8 [] = .unknownId
    ∧ parse .default 0x4E#8 [0#8, 1#8, 2#8] = .malformed := by decide

theorem witness_ContentInjective :
    Config.default.wf = true ∧ (Message.burstData 31#8 7#8 rising).wellTyped .default = true
    ∧ messageContent .default (.burstData 31#8 7#8 rising) = messageContent .default (.burstData 31#8 7#8 rising) := by
  decide

theorem witness_DecodeEncodeAgree :
    Config.default.wf = true ∧ (Instr.msgStartup []).wellFormed .default = true
    ∧ (Instr.msgChannelEvent [0#8, 1#8, 3#8]).wellFormed .default = true
    ∧ (Instr.msgUnrecognizedId 0x99#8 []).wellFormed .default = true
    ∧ (Instr.engineOpen 32#9 (some 1#64) (some 255#8)).wellFormed .default = true
    ∧ (Instr.engineOpen 1#9 none none).wellFormed .default = true
    ∧ (Instr.setChannelId 255#8 65535#16 127#7 255#8).wellFormed .default = true
    ∧ (Instr.sendBurst 255#8 7#3 rising).wellFormed .default = true := by decide

theorem witness_WireDecodingUnambiguous :
    Config.default.wf = true
    ∧ decodeWire .default [0xA4#8, 2#8, 0x4B#8, 0#8, 0xED#8] = .ok (.msgOpenChannel [0#8]) := ⟨by decide, rfl⟩

theorem witness_StepRunsPresentedOperation :
    ({ State.reset with queue := [.ofWord 0#64 [0x12#8]] } : State).queue = .ofWord 0#64 [0x12#8] :: []
    ∧ decodePort (Presented.ofWord 0#64 [0x12#8]).port (Presented.ofWord 0#64 [0x12#8]).word = .ok .tick
    ∧ ({ State.reset with queue := [.ofWord 0#64 [0x15#8]] } : State).queue = .ofWord 0#64 [0x15#8] :: []
    ∧ decodePort (Presented.ofWord 0#64 [0x15#8]).port (Presented.ofWord 0#64 [0x15#8]).word = .error .unassignedOpcode
    ∧ State.reset.queue = [] := ⟨rfl, rfl, rfl, rfl, rfl⟩

/-- For `RxStepConsumesAndDispatches`, `RxStepRemovesOneOfThree`, `DrainReachesNeedMoreData`. -/
theorem witness_RxStep :
    State.reset.Ready ∧ decodeFrame State.reset.cfg State.reset.rxbuf = .needMoreData 0
    ∧ ({ State.reset with rxbuf := [0xA4#8, 0#8] } : State).Ready
    ∧ decodeFrame State.reset.cfg [0xA4#8, 0#8] = .checksumError 0
    ∧ decodeFrame State.reset.cfg [0xA4#8, 1#8, 0x6F#8, 0xCA#8] = .frame 0x6F#8 [] 4 :=
  ⟨⟨rfl, by decide⟩, rfl, ⟨rfl, by decide⟩, rfl, rfl⟩

theorem witness_RxPollAppendsOrReports :
    ({ State.reset with inp := { Inputs.idle with read := .failed } } : State).Ready
    ∧ ({ State.reset with inp := { Inputs.idle with read := .failed } } : State).inp.read = .failed
    ∧ State.reset.Ready ∧ State.reset.inp.read = .upTo 0 := ⟨⟨rfl, by decide⟩, rfl, ⟨rfl, by decide⟩, rfl⟩

/-- The smallest and the largest input of one poll of the empty buffer. -/
theorem witness_RxProgramPollsItsBytes :
    State.reset.Ready ∧ ([] : List Byte).length ≤ State.reset.cfg.rxbufCap - State.reset.rxbuf.length
    ∧ (List.replicate 512 0#8 : List Byte).length ≤ State.reset.cfg.rxbufCap - State.reset.rxbuf.length := by
  refine ⟨⟨rfl, by decide⟩, by decide, ?_⟩
  rw [List.length_replicate]; decide

/-- A full buffer without a sync byte, and one that begins with one. -/
theorem witness_FullBufferMakesProgress :
    (State.reset.rxbuf.length ≤ State.reset.cfg.rxbufCap ∧ ∃ t, exec .rxPoll State.reset = .next t)
    ∧ (({ State.reset with rxbuf := List.replicate 512 0#8 } : State).Ready ∧ State.reset.cfg.wf = true
        ∧ (List.replicate 512 0#8 : List Byte).length = State.reset.cfg.rxbufCap
        ∧ State.reset.cfg.syncByte ∉ (List.replicate 512 0#8 : List Byte))
    ∧ (({ State.reset with rxbuf := 0xA4#8 :: List.replicate 511 0#8 } : State).Ready
        ∧ (0xA4#8 :: List.replicate 511 0#8).length = State.reset.cfg.rxbufCap
        ∧ syncIndex State.reset.cfg (0xA4#8 :: List.replicate 511 0#8) = 0) := by
  refine ⟨⟨by decide, _, rfl⟩, ⟨⟨rfl, by decide⟩, by decide, ?_, ?_⟩, ⟨rfl, by decide⟩, ?_, rfl⟩
  · rw [List.length_replicate]; rfl
  · exact fun h => absurd (List.eq_of_mem_replicate h) (by decide)
  · rw [List.length_cons, List.length_replicate]; rfl

/-! #### The rules of the host operations on a channel: every clause of `ChannelOpRule` and of `SubmitRule` -/

/-- The hypotheses of the clauses of `Claims.ChannelOpRule`, met on channel 0 (and on channel 8, out of range): by the
state `good` for the clauses of an accepted state, by `bad` for the other. -/
def ChannelRuleMet (sources : List ChState) (content : State → Channel → List Byte)
    (good bad : ChState) : Prop :=
  ((at0 good).Ready ∧ (at0 good).nCh.toNat ≤ (8#8).toNat)
  ∧ ((at0 bad).Ready ∧ Claims.HasSlot (at0 bad) 0#8 (slotIn bad)
      ∧ (slotIn bad).state ∉ sources)
  ∧ ((cramped (at0 good)).Ready ∧ Claims.HasSlot (cramped (at0 good)) 0#8 (slotIn good) ∧ (slotIn good).state ∈ sources
      ∧ (cramped (at0 good)).cfg.maxContent < (content (cramped (at0 good)) (slotIn good)).length)
  ∧ ((answering [false] (at0 good)).Ready ∧ Claims.HasSlot (answering [false] (at0 good)) 0#8 (slotIn good)
      ∧ (content (answering [false] (at0 good)) (slotIn good)).length ≤ (answering [false] (at0 good)).cfg.maxContent
      ∧ (answering [false] (at0 good)).txAnswer = false)
  ∧ (content (at0 good) (slotIn good)).length ≤ (at0 good).cfg.maxContent ∧ (at0 good).txAnswer = true
    ∧ Claims.HasSlot (at0 good) 0#8 (slotIn good)

theorem ready_at0 (st : ChState) : (at0 st).Ready := ⟨rfl, Nat.le_refl 0⟩

theorem hasSlot_at0 (st : ChState) : Claims.HasSlot (at0 st) 0#8 (slotIn st) := ⟨Nat.zero_lt_succ 7, rfl⟩

theorem channelRule_met {sources : List ChState} {content : State → Channel → List Byte}
    {good bad : ChState} (hg : good ∈ sources) (hb : bad ∉ sources)
    (h0 : 0 < (content (cramped (at0 good)) (slotIn good)).length)
    (h1 : (content (answering [false] (at0 good)) (slotIn good)).length ≤ 9)
    (h2 : (content (at0 good) (slotIn good)).length ≤ 9) : ChannelRuleMet sources content good bad :=
  ⟨⟨ready_at0 good, Nat.le_refl 8⟩, ⟨ready_at0 bad, hasSlot_at0 bad, hb⟩,
    ⟨ready_at0 good, hasSlot_at0 good, hg, h0⟩, ⟨ready_at0 good, hasSlot_at0 good, h1, rfl⟩,
    h2, rfl, hasSlot_at0 good⟩

theorem witness_AssignAndUnassign :
    ChannelRuleMet [.unassigned] (fun _ _ => [0#8, 0#8, 0#8]) .unassigned .closed
    ∧ ChannelRuleMet [.closed] (fun _ _ => [0#8]) .closed .tracking :=
  ⟨channelRule_met (by decide) (by decide) (by decide) (by decide) (by decide),
    channelRule_met (by decide) (by decide) (by decide) (by decide) (by decide)⟩

/-- `SET_CHANNEL_ID` with the largest device type, `SET_RF_FREQ`, `SET_PERIOD`; then the hypotheses of the two clauses of the
type byte, at the largest device type and at the highest place of the pairing bit. -/
theorem witness_ConfigurationOperations :
    ChannelRuleMet [.assigned]
      (fun s v => [0#8, (12345#16).setWidth 8, (12345#16 >>> 8).setWidth 8,
        typeByte s.cfg v.pairing ((127#7).setWidth 8), 5#8]) .assigned .searching
    ∧ ChannelRuleMet [.assigned] (fun _ _ => [0#8, 57#8]) .assigned .unassigned
    ∧ ChannelRuleMet [.assigned]
      (fun _ _ => [0#8, (8070#16).setWidth 8, (8070#16 >>> 8).setWidth 8]) .assigned .tracking
    ∧ (127#8).getLsbD Config.default.pairingBitPos = false ∧ Config.default.pairingBitPos ≤ 7 :=
  ⟨channelRule_met (by decide) (by decide) (by decide) (by decide) (by decide),
    channelRule_met (by decide) (by decide) (by decide) (by decide) (by decide),
    channelRule_met (by decide) (by decide) (by decide) (by decide) (by decide), by decide, by decide⟩

theorem witness_OpenCloseAndBroadcast :
    ChannelRuleMet [.assigned] (fun _ _ => [0#8]) .assigned .closed
    ∧ ChannelRuleMet [.searching, .tracking] (fun _ _ => [0#8]) .tracking .assigned
    ∧ ChannelRuleMet [.searching, .tracking] (fun _ _ => 0#8 :: rising.bytes)
      .searching .assigned :=
  ⟨channelRule_met (by decide) (by decide) (by decide) (by decide) (by decide),
    channelRule_met (by decide) (by decide) (by decide) (by decide) (by decide),
    channelRule_met (by decide) (by decide) (by decide) (by decide) (by decide)⟩

theorem witness_SetPairingWritesFlagOnly :
    (∀ st, (at0 st).Ready ∧ Claims.HasSlot (at0 st) 0#8 (slotIn st)) ∧ State.reset.nCh.toNat ≤ (8#8).toNat
    ∧ (slotIn .unassigned).state = .unassigned ∧ (slotIn .assigned).state = .assigned
    ∧ (slotIn .searching).state ≠ .unassigned ∧ (slotIn .searching).state ≠ .assigned :=
  ⟨fun st => ⟨ready_at0 st, hasSlot_at0 st⟩, by decide, rfl, rfl, by decide, by decide⟩

/-- The hypotheses of the two clauses of the burst byte, at the largest sequence number and the largest channel; then the
clauses of `SubmitRule`. -/
theorem witness_SubmitRecordsOnePendingSend :
    ((7#8).toNat < 2 ^ (8 - Config.default.burstChBits)
      ∧ (31#8).toNat < 2 ^ Config.default.burstChBits)
    ∧ (State.reset.Ready ∧ State.reset.nCh.toNat ≤ (8#8).toNat)
    ∧ ((at0 .closed).Ready ∧ Claims.HasSlot (at0 .closed) 0#8 (slotIn .closed)
        ∧ (at0 .closed).pa[(0#8).toNat]? = some Pending.fresh ∧ (slotIn .closed).state.isOpen = false)
    ∧ ((sending .tracking 0#8).Ready ∧ Claims.HasSlot (sending .tracking 0#8) 0#8 (slotIn .tracking)
        ∧ (sending .tracking 0#8).pa[(0#8).toNat]? = some (inFlight ackFrame 100#64 0#8)
        ∧ (slotIn .tracking).state.isOpen = true)
    ∧ ((cramped (at0 .searching)).Ready ∧ (cramped (at0 .searching)).cfg.maxContent < 9
        ∧ Claims.HasSlot (cramped (at0 .searching)) 0#8 (slotIn .searching))
    ∧ ((answering [false] (at0 .searching)).Ready ∧ 9 ≤ (answering [false] (at0 .searching)).cfg.maxContent
        ∧ (answering [false] (at0 .searching)).txAnswer = false
        ∧ Claims.HasSlot (answering [false] (at0 .searching)) 0#8 (slotIn .searching))
    ∧ ((at0 .searching).Ready ∧ Claims.HasSlot (at0 .searching) 0#8 (slotIn .searching)
        ∧ (at0 .searching).pa[(0#8).toNat]? = some Pending.fresh ∧ Pending.fresh.valid = false
        ∧ (at0 .searching).txAnswer = true) :=
  ⟨by decide, ⟨⟨rfl, by decide⟩, by decide⟩, ⟨⟨rfl, by decide⟩, ⟨by decide, rfl⟩, rfl, rfl⟩,
    ⟨⟨rfl, by decide⟩, ⟨by decide, rfl⟩, rfl, rfl⟩, ⟨⟨rfl, by decide⟩, by decide, ⟨by decide, rfl⟩⟩,
    ⟨⟨rfl, by decide⟩, by decide, rfl, ⟨by decide, rfl⟩⟩, ⟨⟨rfl, by decide⟩, ⟨by decide, rfl⟩, rfl, rfl, rfl⟩⟩

/-! #### Retries -/

theorem witness_TickServesDueSends :
    (atTime 150#64 (sending .searching 0#8)).Ready ∧ (sending .searching 0#8).nCh.toNat ≤ 256
    ∧ (sending .searching 0#8).pa.length = (sending .searching 0#8).nCh.toNat
    ∧ ∀ a ∈ (atTime 150#64 (sending .searching 0#8)).inp.txAnswers, a = true :=
  ⟨⟨rfl, by decide⟩, by decide, rfl, by simp [atTime, sending, Inputs.idle]⟩

/-- Vector A8 (due sends on channels 1 and 3, the first resend refused); and a refused resend on channel 1 beside an
exhausted send on channel 3. -/
theorem witness_TickSurvivesRefusedResend :
    ((answering [false, true] (atTime 201#64 sending13)).Ready ∧ sending13.nCh.toNat ≤ 256
        ∧ (List.range 8).filter (Claims.resendsAt (answering [false, true] (atTime 201#64 sending13))) = [1, 3]
        ∧ (List.range 8).find? (Claims.refusedAt (answering [false, true] (atTime 201#64 sending13))) = some 1)
    ∧ ((answering [false] (atTime 201#64 mixed13)).Ready ∧ mixed13.nCh.toNat ≤ 256
        ∧ (List.range 8).filter (Claims.resendsAt (answering [false] (atTime 201#64 mixed13))) = [1]
        ∧ (Claims.dueAt? (answering [false] (atTime 201#64 mixed13)) 3).isSome = true) :=
  ⟨⟨⟨rfl, by decide⟩, by decide, by decide, by decide⟩, ⟨rfl, by decide⟩, by decide, by decide, by decide⟩

theorem pa_nth0 {st : ChState} {r : Byte} {c : Byte} {p : Pending} (h : (sending st r).inFlight? c = some p) :
    c = 0#8 ∧ p = inFlight ackFrame 100#64 r := by
  obtain ⟨_, hp, hv⟩ := inFlight?_eq_some.1 h
  generalize hk : c.toNat = k at hp
  match k with
  | 0 =>
    cases hp
    exact ⟨BitVec.eq_of_toNat_eq hk, rfl⟩
  | 1 => cases hp; cases hv
  | 2 => cases hp; cases hv
  | 3 => cases hp; cases hv
  | 4 => cases hp; cases hv
  | 5 => cases hp; cases hv
  | 6 => cases hp; cases hv
  | 7 => cases hp; cases hv
  | _ + 8 => cases hp

/-- The invariants hold in a state with a send in flight. -/
theorem invariants_sending : Invariants (sending .searching 0#8) where
  cfgWf := by decide
  chLength := rfl
  paLength := rfl
  openRange _ := by decide
  bufferWf := by decide
  unassignedClear c v hv _ := by
    have hm := List.mem_of_getElem? (slot?_eq_some.1 hv).2
    have all : ∀ w ∈ (sending .searching 0#8).ch, w.idSet = false ∧ w.rfSet = false ∧ w.periodSet = false := by decide
    exact all v hm
  pendingInv c p hp := by
    obtain ⟨rfl, rfl⟩ := pa_nth0 hp
    exact ⟨⟨slotIn .searching, rfl, rfl⟩, by decide,
      ⟨0x4F#8, 0#8 :: doubled.bytes, .acknowledgedData 0#8 doubled, rfl, rfl, ⟨doubled, rfl⟩⟩, by decide⟩
  closedIdle h := by cases h

/-- Program P2: due at 150, 200, 250 and 300; then at 350 and 1000 nothing is pending. -/
theorem witness_UnansweredSendFailsAfterBound :
    (sending .searching 0#8).eng = .opened ∧ Invariants (sending .searching 0#8)
    ∧ (sending .searching 0#8).inFlight? 0#8 = some (inFlight ackFrame 100#64 0#8)
    ∧ (inFlight ackFrame 100#64 0#8).retries = 0#8
    ∧ (∀ d, d ≠ 0#8 → (sending .searching 0#8).inFlight? d = none)
    ∧ [150#64, 200#64, 250#64, 300#64].length = (sending .searching 0#8).maxRetries.toNat + 1
    ∧ Claims.Spaced (sending .searching 0#8).ackTimeout.toNat (100#64).toNat [150#64, 200#64, 250#64, 300#64]
    ∧ (∀ t ∈ [150#64, 200#64, 250#64, 300#64], (sending .searching 0#8).tLast.toNat ≤ t.toNat)
    ∧ Claims.Spaced 0 0 ([150#64, 200#64, 250#64, 300#64] ++ [350#64, 1000#64]) := by
  refine ⟨rfl, invariants_sending, rfl, rfl, fun d hd => ?_, rfl, ?_, fun t ht => ?_, ?_⟩
  · cases h : (sending .searching 0#8).inFlight? d with
    | none => rfl
    | some p => exact absurd (pa_nth0 h).1 hd
  · exact ⟨by decide, by decide, by decide, by decide, trivial⟩
  · simp only [List.mem_cons, List.not_mem_nil, or_false] at ht
    rcases ht with rfl | rfl | rfl | rfl <;> decide
  · exact ⟨by decide, by decide, by decide, by decide, by decide, by decide, trivial⟩

/-- Also for `RegisterWriters`, `OutputsAppended` and `StepKeepsInvariants`: a completion event, with a send in flight
and with none. -/
theorem witness_PendingSendResolvedExactlyOnce :
    Invariants (sending .searching 0#8)
    ∧ (∃ t, exec (.evtTransferTxCompleted 0#8 1#8) (sending .searching 0#8) = .next t)
    ∧ (sending .searching 0#8).inFlight? 0#8 = some (inFlight ackFrame 100#64 0#8)
    ∧ (sending .searching 0#8).inFlight? 1#8 = none := ⟨invariants_sending, ⟨_, rfl⟩, rfl, rfl⟩

/-! #### Inbound frames and engine operations -/

/-- The first byte of a burst gives its channel: `A3` is channel 3. -/
theorem witness_InboundRejections :
    Claims.inbound? Config.default (.msgOpenChannel []) = some (.openChannel, [])
    ∧ (State.reset.Ready ∧ Claims.inbound? Config.default (.msgBurstData (0xA3#8 :: rising.bytes))
          = some (.burstData, 0xA3#8 :: rising.bytes) ∧ chanOf Config.default .burstData 0xA3#8 = 3#8
        ∧ Claims.HasSlot State.reset 3#8 (slotIn .unassigned) ∧ (slotIn .unassigned).state = .unassigned)
    ∧ (Claims.inbound? Config.default (.msgOpenChannel [8#8]) = some (.openChannel, [8#8])
        ∧ State.reset.nCh.toNat ≤ (8#8).toNat)
    ∧ (∀ st, (at0 st).Ready ∧ Claims.HasSlot (at0 st) 0#8 (slotIn st) ∧ (slotIn st).state = st)
    ∧ Claims.inbound? Config.default (.msgBroadcastData [0#8, 1#8, 2#8]) = some (.broadcastData, [0#8, 1#8, 2#8])
    ∧ Kind.broadcastData.contentLength ≠ some ([1#8, 2#8].length + 1) :=
  ⟨rfl, ⟨⟨rfl, by decide⟩, rfl, rfl, ⟨by decide, rfl⟩, rfl⟩, ⟨rfl, by decide⟩,
    fun st => ⟨ready_at0 st, hasSlot_at0 st, rfl⟩, rfl, by decide⟩

/-- For `OutboundOnlyKindsDropped`, `DataMessagesTrackAndSurface`, `SearchEventsMoveTheChannel` and
`OtherEventsForwarded`: channel 0 in each of the three states, and a code that is none of the four. -/
theorem witness_inbound_states :
    (∀ st, (at0 st).Ready ∧ Claims.HasSlot (at0 st) 0#8 (slotIn st) ∧ (slotIn st).state = st)
    ∧ (∀ st ∈ [ChState.assigned, .searching, .tracking], st ≠ .unassigned ∧ st ≠ .closed)
    ∧ 3#8 ∉ Config.default.eventCodes :=
  ⟨fun st => ⟨ready_at0 st, hasSlot_at0 st, rfl⟩, by decide, by decide⟩

theorem witness_TransferEventsResolveOrRetry :
    (∀ r, (sending .searching r).Ready ∧ Claims.HasSlot (sending .searching r) 0#8 (slotIn .searching)
      ∧ (sending .searching r).pa[(0#8).toNat]? = some (inFlight ackFrame 100#64 r)
      ∧ (inFlight ackFrame 100#64 r).valid = true ∧ (sending .searching r).txAnswer = true)
    ∧ ((at0 .searching).Ready ∧ Claims.HasSlot (at0 .searching) 0#8 (slotIn .searching)
      ∧ (at0 .searching).pa[(0#8).toNat]? = some Pending.fresh ∧ Pending.fresh.valid = false)
    ∧ (2#8).toNat < (sending .searching 2#8).maxRetries.toNat
    ∧ (sending .searching 3#8).maxRetries.toNat ≤ (3#8).toNat
    ∧ (answering [false] (sending .searching 2#8)).Ready
    ∧ (answering [false] (sending .searching 2#8)).txAnswer = false :=
  ⟨fun _ => ⟨⟨rfl, Nat.le_refl 100⟩, ⟨Nat.zero_lt_succ 7, rfl⟩, rfl, rfl, rfl⟩,
    ⟨⟨rfl, by decide⟩, ⟨by decide, rfl⟩, rfl, rfl⟩, by decide, by decide, ⟨rfl, by decide⟩, rfl⟩

/-- For `SystemAndUnknownMessages`, `AcceptedExactlyWhenAllowed` and the statements whose one hypothesis is `Ready`. -/
theorem witness_Ready : State.reset.Ready ∧ Claims.operandsInRange .default .tick = true := ⟨⟨rfl, by decide⟩, by decide⟩

/-- The smallest and the largest table, the smallest timeout and the default, and a transport that opens and one that does not. -/
theorem witness_EngineOpenIsReset :
    (State.powerOn .default).eng = .closed
    ∧ (State.powerOn .default).tLast.toNat ≤ (State.powerOn .default).inp.now.toNat
    ∧ 1 ≤ (1#9).toNat ∧ (32#9).toNat ≤ 2 ^ (State.powerOn .default).cfg.burstChBits
    ∧ 1 ≤ ((some 1#64).getD (State.powerOn .default).cfg.ackTimeout).toNat
    ∧ 1 ≤ ((none : Option Time).getD (State.powerOn .default).cfg.ackTimeout).toNat
    ∧ (State.powerOn .default).inp.openOk = true
    ∧ ({ State.powerOn .default with inp := { Inputs.idle with openOk := false } } : State).inp.openOk = false := by
  decide

theorem witness_EngineCloseCancelsEverything :
    (sending .searching 0#8).Ready ∧ (sending .searching 0#8).nCh.toNat ≤ 256
    ∧ (sending .searching 0#8).pa.length = (sending .searching 0#8).nCh.toNat := ⟨⟨rfl, by decide⟩, by decide, rfl⟩

theorem witness_RequestNeedsNoChannel :
    (cramped State.reset).Ready ∧ (cramped State.reset).cfg.maxContent < 2
    ∧ State.reset.Ready ∧ 2 ≤ State.reset.cfg.maxContent ∧ State.reset.txAnswer = true
    ∧ (answering [false] State.reset).Ready ∧ (answering [false] State.reset).txAnswer = false :=
  ⟨⟨rfl, by decide⟩, by decide, ⟨rfl, by decide⟩, by decide, rfl, ⟨rfl, by decide⟩, rfl⟩

/-- A configured slot and one with nothing set; channel 8 is out of range. -/
theorem witness_StatusReadsReturnState :
    State.reset.Ready ∧ State.reset.nCh.toNat ≤ (8#8).toNat
    ∧ Claims.HasSlot { State.reset with ch := [{ slotIn .assigned with idSet := true, rfSet := true, periodSet := true }] }
        0#8 { slotIn .assigned with idSet := true, rfSet := true, periodSet := true }
    ∧ Claims.HasSlot State.reset 7#8 Channel.fresh ∧ State.reset.pa[(7#8).toNat]? = some Pending.fresh :=
  ⟨⟨rfl, by decide⟩, by decide, ⟨by decide, rfl⟩, ⟨by decide, rfl⟩, rfl⟩

/-! #### The whole machine -/

theorem witness_AcceptedExactlyWhenAllowed :
    Claims.operandsInRange .default (.engineOpen 0#9 (some 50#64) (some 3#8)) = false
    ∧ (Claims.operandsInRange .default .tick = true ∧ Claims.isEngineOpen .tick = false
        ∧ (State.powerOn .default).eng = .closed)
    ∧ (Claims.operandsInRange .default (.engineOpen 8#9 (some 50#64) (some 3#8)) = true
        ∧ Claims.isEngineOpen (.engineOpen 8#9 (some 50#64) (some 3#8)) = true ∧ State.reset.eng = .opened)
    ∧ ((Claims.isEngineOpen .tick = true ↔ (sending .searching 0#8).eng = .closed)
        ∧ (atTime 99#64 (sending .searching 0#8)).inp.now.toNat < (sending .searching 0#8).tLast.toNat)
    ∧ (sending .searching 0#8).tLast.toNat ≤ (sending .searching 0#8).inp.now.toNat := by decide

/-- For `RegisterWriters`, `OutputsAppended`, `SlotFieldWriters` and `OnlyListedTransitions`: an operation that moves
channel 0 and gives a next state. -/
theorem witness_frames :
    ∃ t, exec (.openCh 0#8) (at0 .assigned) = .next t ∧ Claims.isEngineOpen (.openCh 0#8) = false
      ∧ (at0 .assigned).ch[(0#8).toNat]? = some (slotIn .assigned) ∧ t.ch[(0#8).toNat]? = some (slotIn .searching)
      ∧ (at0 .assigned).slot? 0#8 = some (slotIn .assigned) ∧ t.slot? 0#8 = some (slotIn .searching)
      ∧ (slotIn .searching).state ≠ (slotIn .assigned).state :=
  ⟨_, rfl, rfl, rfl, rfl, rfl, rfl, by decide⟩

/-- A transfer-failed frame causes the one frame an inbound message can cause. -/
theorem witness_OutputsAppended :
    ∃ t, exec (.evtTransferTxFailed 0#8 1#8) (sending .searching 0#8) = .next t
      ∧ Claims.isFrame ((sending .searching 0#8).running (.evtTransferTxFailed 0#8 1#8)) = true
      ∧ txStream t.out = [ackFrame] := ⟨_, rfl, rfl, rfl⟩

theorem witness_ChannelsIsolated :
    Claims.servesAll (.closeCh 0#8) = false
    ∧ Claims.addressed? State.reset.cfg (State.reset.running (.closeCh 0#8)) ≠ some 1#8
    ∧ Claims.addressed? State.reset.cfg
        (({ State.reset with rxbuf := [0xA4#8, 2#8, 0x4B#8, 0#8, 0xED#8] } : State).running .rxStep) ≠ some 1#8 := by
  decide

theorem witness_StepKeepsInvariants :
    Invariants (sending .searching 0#8)
    ∧ ∃ t, step { sending .searching 0#8 with queue := [.ofWord 150#64 [0x12#8]] } = .next t :=
  ⟨invariants_sending, _, rfl⟩

/-- The word of `ASSIGN` on channel 1, whose write the transport refuses. -/
def refusedAssign : Presented :=
  { Presented.ofWord 150#64 [0x02#8, 1#8, 0#8, 0#8] with
    inputs := { Inputs.idle with now := 150#64, txAnswers := [false] } }

/-- Program P7's refused `ASSIGN`, beside a send in flight: the slot's past says so and its fault bit is set. -/
theorem witness_StepKeepsUnassignedSlots :
    ({ sending .searching 0#8 with queue := [refusedAssign] } : State).queue = refusedAssign :: []
    ∧ refusedAssign.instr = .ok (.assign 1#8 0#8 0#8)
    ∧ Invariants { sending .searching 0#8 with queue := [refusedAssign] }
    ∧ UnassignedInv { sending .searching 0#8 with queue := [refusedAssign] } 1#8 .fresh
    ∧ ∃ t, step { sending .searching 0#8 with queue := [refusedAssign] } = .next t
      ∧ Past.fresh.after 1#8 (.assign 1#8 0#8 0#8) t = { pairing := false, refusedAssign := true }
      ∧ (t.slot? 1#8).map Channel.xfault = some true := by
  refine ⟨rfl, rfl, ?_, ?_, _, rfl, rfl, rfl⟩
  · exact ⟨invariants_sending.cfgWf, rfl, rfl, invariants_sending.openRange, invariants_sending.bufferWf,
      invariants_sending.unassignedClear, invariants_sending.pendingInv, invariants_sending.closedIdle⟩
  · intro v hv _
    cases hv
    exact ⟨rfl, rfl, rfl, rfl, fun _ => rfl⟩

/-- A transport that opens. -/
theorem witness_OpenedSlotsAreFresh :
    (State.powerOn .default).inp.openOk = true
    ∧ ∃ t, exec (.engineOpen 8#9 none none) (State.powerOn .default) = .next t := ⟨rfl, _, rfl⟩

end Sys2Proof.Tests
end

/-! ## What a step does: one lemma per branch of `step` (R9, R120, R320) -/

namespace Sys2Proof.Machine

theorem step_of_queue_nil {s : State} (hq : s.queue = []) : step s = .refused .noOperation := by
  simp only [step, hq]

theorem step_of_instr_error {s : State} {p : Presented} {rest : List Presented} {e : DecodeError}
    (hq : s.queue = p :: rest) (hi : p.instr = .error e) : step s = .refused (.badOperation e) := by
  simp only [step, hq, hi]

theorem step_of_instr_ok {s : State} {p : Presented} {rest : List Presented} {i : Instr}
    (hq : s.queue = p :: rest) (hi : p.instr = .ok i) : step s = exec i (s.present p rest) := by
  simp only [step, hq, hi]

/-- Settles O10: the statement's three clauses are the three branches of `step`; `Presented.instr` and `State.present`
name the decoding and the state that the statement writes out. -/
theorem stepRunsPresentedOperation : Obligations.StepRunsPresentedOperation := by
  refine ⟨?runs, ?badWord, ?nothingPresented⟩
  case runs =>
    intro s p rest i hq hi
    exact step_of_instr_ok hq hi
  case badWord =>
    intro s p rest e hq he
    exact step_of_instr_error hq he
  case nothingPresented =>
    intro s hq
    exact step_of_queue_nil hq

end Sys2Proof.Machine

/-! ## What an accepted instruction does: one inductive for all 41 of them -/

namespace Sys2Proof.Machine

/-- Every way an accepted instruction can go on from `s`: the four instructions that serve more than one channel or run
another one, and all others, which end as `Ends` says. -/
inductive Steps (s : State) : Instr → State → Prop
  | opened (n : BitVec 9) (ackTimeout : Option Time) (maxRetries : Option Byte) (hc : s.eng = .closed)
    (range : s.cfg.openRange n (ackTimeout.getD s.cfg.ackTimeout) = true) (ok : s.inp.openOk = true) :
    Steps s (.engineOpen n ackTimeout maxRetries) ((s.sample.openTransport.deviceOpen n
      (ackTimeout.getD s.cfg.ackTimeout) (maxRetries.getD s.cfg.maxRetries)).ret .none)
  | openFailed (n : BitVec 9) (ackTimeout : Option Time) (maxRetries : Option Byte) (hc : s.eng = .closed)
    (time : s.tLast.toNat ≤ s.inp.now.toNat) (no : s.inp.openOk = false) :
    Steps s (.engineOpen n ackTimeout maxRetries) ((s.sample.openTransport.transportFault none).raise (.transport none))
  | stopped (hr : s.Ready) :
    Steps s .engineClose ((s.channels.foldl State.cancelPending s.sample).engineStop.ret .none)
  | ticked (hr : s.Ready) (r : Result) :
    Steps s .tick ((s.channels.foldl tickChannel (s.sample, none)).1.raise r)
  | starved (hr : s.Ready) (skip : Nat) (hd : decodeFrame s.cfg s.rxbuf = .needMoreData skip) :
    Steps s .rxStep ((s.sample.rxDrop skip).raise .needMoreData)
  | skipped (hr : s.Ready) (skip : Nat) (pos : Time) (hd : decodeFrame s.cfg s.rxbuf = .checksumError skip) :
    Steps s .rxStep (((s.sample.rxDrop (skip + 1)).notify (.warning (.checksum pos))).raise (.checksum pos))
  | received (hr : s.Ready) (id : Byte) (content : List Byte) (n : Nat)
    (hd : decodeFrame s.cfg s.rxbuf = .frame id content n) {t : State}
    (he : Ends (frameInstr s.cfg id content) (s.rxDrop n).sample t) : Steps s .rxStep t
  | ended (hr : s.Ready) {i : Instr} {t : State} (hl : isLocal i = true) (he : Ends i s.sample t) : Steps s i t

theorem exec_steps {i : Instr} {s t : State} (h : exec i s = .next t) : Steps s i t := by
  cases i with
  | engineOpen n a r =>
    obtain ⟨range, hc, time, ⟨ok, rfl⟩ | ⟨no, rfl⟩⟩ := execEngineOpen_next h
    · exact .opened n a r hc range ok
    · exact .openFailed n a r hc time no
  | engineClose =>
    obtain ⟨hr, rfl⟩ := execEngineClose_next.1 h
    exact .stopped hr
  | tick =>
    obtain ⟨hr, rfl⟩ := execTick_next.1 h
    split
    · exact .ticked hr (.ok .none)
    · exact .ticked hr _
  | rxStep =>
    obtain ⟨hr, ⟨skip, hd, rfl⟩ | ⟨skip, pos, hd, rfl⟩ | ⟨id, content, n, hd, he⟩⟩ := rxStep_ends h
    · exact .starved hr skip hd
    · exact .skipped hr skip pos hd
    · exact .received hr id content n hd he
  | _ =>
    obtain ⟨hr, he⟩ := exec_ends rfl h
    exact .ended hr rfl he

end Sys2Proof.Machine

/-! ## The registers: what only a few operations write (R21 to R24, R31 to R33) -/

namespace Sys2Proof.Machine

/-- Everything of the state but the tables' slots, the engine's fault bit, the answers left to use and the outputs. -/
structure Registers where
  cfg : Config
  queue : List Presented
  tLast : Time
  now : Time
  eng : EngState
  nCh : BitVec 9
  ackTimeout : Time
  maxRetries : Byte
  chLength : Nat
  paLength : Nat
  rxbuf : Memory
  rxPos : Time
  wire : List Byte

def State.registers (s : State) : Registers where
  cfg := s.cfg
  queue := s.queue
  tLast := s.tLast
  now := s.inp.now
  eng := s.eng
  nCh := s.nCh
  ackTimeout := s.ackTimeout
  maxRetries := s.maxRetries
  chLength := s.ch.length
  paLength := s.pa.length
  rxbuf := s.rxbuf
  rxPos := s.rxPos
  wire := s.wire

section
variable (s : State)

@[simp] theorem State.notify_registers (n : Notification) : (s.notify n).registers = s.registers := rfl
@[simp] theorem State.txWrite_registers (f : Frame) : (s.txWrite f).registers = s.registers := rfl
@[simp] theorem State.ret_registers (v : Value) : (s.ret v).registers = s.registers := rfl
@[simp] theorem State.raise_registers (r : Result) : (s.raise r).registers = s.registers := rfl
@[simp] theorem State.useFree_registers : s.useFree.registers = s.registers := rfl
@[simp] theorem State.openTransport_registers : s.openTransport.registers = s.registers := rfl

@[simp] theorem State.setSlot_registers (c : Byte) (v : Channel) : (s.setSlot c v).registers = s.registers := by
  simp [State.registers]

@[simp] theorem State.setPend_registers (c : Byte) (p : Pending) : (s.setPend c p).registers = s.registers := by
  simp [State.registers]

@[simp] theorem State.resolve_registers (c : Byte) (p : Pending) (o : AckOutcome) :
    (s.resolve c p o).registers = s.registers := s.setPend_registers c { p with valid := false }

@[simp] theorem State.transportFault_registers (target : Option Byte) :
    (s.transportFault target).registers = s.registers :=
  transportFault_elim (P := fun t => t.registers = s.registers) (fun _ => rfl) (fun _ _ _ => rfl)
    (fun _ _ _ _ => by simp)

@[simp] theorem State.cancelPending_registers (c : Byte) : (s.cancelPending c).registers = s.registers :=
  cancelPending_elim (P := fun t => t.registers = s.registers) (fun _ => rfl) (fun _ _ => by simp)

@[simp] theorem State.ackCompleted_registers (c : Byte) : (s.ackCompleted c).registers = s.registers :=
  ackCompleted_elim (P := fun t => t.registers = s.registers) (fun _ => rfl) (fun _ _ => by simp)

@[simp] theorem State.ackFailed_registers (c : Byte) : (s.ackFailed c).registers = s.registers :=
  ackFailed_elim (P := fun t => t.registers = s.registers) (fun _ => rfl) (fun _ _ _ _ => by simp)
    (fun _ _ _ _ => by simp) (fun _ _ _ => by simp)

theorem tickChannel_registers (a : State × Option Byte) (c : Byte) : (tickChannel a c).1.registers = a.1.registers :=
  tickChannel_elim (P := fun b => b.1.registers = a.1.registers) (fun _ => rfl) (fun _ _ _ => rfl)
    (fun _ _ _ _ _ => by simp) (fun _ _ _ _ _ => by simp) (fun _ _ _ _ => by simp)

/-! ### The engine's fault bit is only ever set (R24) -/

@[simp] theorem State.cancelPending_xfault (c : Byte) : (s.cancelPending c).xfault = s.xfault :=
  cancelPending_elim (P := fun t => t.xfault = s.xfault) (fun _ => rfl) (fun _ _ => rfl)

@[simp] theorem State.ackCompleted_xfault (c : Byte) : (s.ackCompleted c).xfault = s.xfault :=
  ackCompleted_elim (P := fun t => t.xfault = s.xfault) (fun _ => rfl) (fun _ _ => rfl)

@[simp] theorem State.transportFault_xfault_slot (c : Byte) : (s.transportFault (some c)).xfault = s.xfault :=
  transportFault_elim (P := fun t => t.xfault = s.xfault) nofun (fun _ _ _ => rfl) (fun _ _ _ _ => rfl)

@[simp] theorem State.transportFault_xfault_engine : (s.transportFault none).xfault = true := rfl

@[simp] theorem State.ackFailed_xfault (c : Byte) : (s.ackFailed c).xfault = s.xfault :=
  ackFailed_elim (P := fun t => t.xfault = s.xfault) (fun _ => rfl) (fun _ _ _ _ => rfl)
    (fun _ _ _ _ => by simp) (fun _ _ _ => rfl)

theorem tickChannel_xfault (a : State × Option Byte) (c : Byte) : (tickChannel a c).1.xfault = a.1.xfault :=
  tickChannel_elim (P := fun b => b.1.xfault = a.1.xfault) (fun _ => rfl) (fun _ _ _ => rfl)
    (fun _ _ _ _ _ => rfl) (fun _ _ _ _ _ => by simp) (fun _ _ _ _ => rfl)

end

/-! ### The two loops -/

theorem tickFold_registers (cs : List Byte) (a : State × Option Byte) :
    (cs.foldl tickChannel a).1.registers = a.1.registers ∧ (cs.foldl tickChannel a).1.xfault = a.1.xfault :=
  tickFold_elim (P := fun b => b.1.registers = a.1.registers ∧ b.1.xfault = a.1.xfault)
    (fun b c h => ⟨(tickChannel_registers b c).trans h.1, (tickChannel_xfault b c).trans h.2⟩) cs a ⟨rfl, rfl⟩

theorem cancelFold_registers (cs : List Byte) (s : State) :
    (cs.foldl State.cancelPending s).registers = s.registers ∧ (cs.foldl State.cancelPending s).xfault = s.xfault :=
  cancelFold_elim (P := fun t => t.registers = s.registers ∧ t.xfault = s.xfault)
    (fun t c h => ⟨(t.cancelPending_registers c).trans h.1, (t.cancelPending_xfault c).trans h.2⟩) cs s ⟨rfl, rfl⟩

/-! ### Every way to end -/

/-- Of the instructions that `Ends` speaks of, each leaves the registers, but for the bytes that `RX_POLL` takes from the
transport. -/
theorem Ends.registers {i : Instr} {s t : State} (he : Ends i s t) :
    t.registers = s.registers ∨ (i = .rxPoll ∧ ∃ bs : List Byte, bs.length ≤ s.rxFree ∧
      t.registers = (({ s with wire := s.wire.drop bs.length } : State).rxAppend bs).registers) := by
  cases he with
  | polled hi bs fits => exact .inr ⟨hi, bs, fits, rfl⟩
  | _ => exact .inl (by simp)

theorem Ends.xfault {i : Instr} {s t : State} (he : Ends i s t) (hx : s.xfault = true) : t.xfault = true := by
  cases he <;> simp [hx]

/-- Equal registers, field by field, in the order in which `RegisterWriters` names them. -/
theorem registers_eq {s t : State} (h : t.registers = s.registers) :
    (t.cfg = s.cfg ∧ t.queue = s.queue ∧ t.tLast = s.tLast ∧ t.inp.now = s.inp.now) ∧ t.eng = s.eng
      ∧ (t.nCh = s.nCh ∧ t.ackTimeout = s.ackTimeout ∧ t.maxRetries = s.maxRetries)
      ∧ (t.ch.length = s.ch.length ∧ t.pa.length = s.pa.length)
      ∧ t.rxbuf = s.rxbuf ∧ t.rxPos = s.rxPos ∧ t.wire = s.wire := by
  simpa [State.registers, and_assoc] using h

end Sys2Proof.Machine

namespace Sys2Proof.Machine

/-- `RX_STEP` takes bytes from the head of the buffer and writes no other register (R140, R141). -/
theorem rxStep_registers {s t : State} (h : exec .rxStep s = .next t) :
    ∃ n, t.registers = (s.sample.rxDrop n).registers ∧ (s.xfault = true → t.xfault = true) := by
  obtain ⟨-, ⟨skip, -, rfl⟩ | ⟨skip, pos, -, rfl⟩ | ⟨id, content, n, -, he⟩⟩ := rxStep_ends h
  · exact ⟨skip, rfl, id⟩
  · exact ⟨skip + 1, rfl, id⟩
  · refine ⟨n, ?_, he.xfault⟩
    rcases he.registers with hreg | ⟨hi, -⟩
    · exact hreg
    · have hw := (frameInstr_isLocal s.cfg id content).2
      rw [hi] at hw
      cases hw

/-- Settles O38: the registers each kind of instruction leaves, from `cancelFold_registers`, `tickFold_registers`,
`rxStep_registers` and `Ends.registers`. -/
theorem registerWriters : Obligations.RegisterWriters := by
  intro i s t h
  cases exec_steps h with
  | opened | openFailed => exact ⟨rfl, rfl, rfl, rfl, nofun, nofun, nofun, nofun, fun _ => rfl⟩
  | stopped =>
    obtain ⟨hreg, hx⟩ := cancelFold_registers s.channels s.sample
    obtain ⟨⟨hcfg, hqueue, htime, hnow⟩, -, ⟨hn, ha, hm⟩, ⟨hch, hpa⟩, -, hpos, hwire⟩ := registers_eq hreg
    exact ⟨hcfg, hqueue, htime, hnow, fun _ hc => absurd rfl hc, fun _ => ⟨hn, ha, hm, hx.trans, hch, hpa⟩,
      fun _ hc => absurd rfl hc, fun _ _ => hpos, fun _ => hwire⟩
  | ticked =>
    obtain ⟨hreg, hx⟩ := tickFold_registers s.channels (s.sample, none)
    obtain ⟨⟨hcfg, hqueue, htime, hnow⟩, heng, ⟨hn, ha, hm⟩, ⟨hch, hpa⟩, hbuf, hpos, hwire⟩ := registers_eq hreg
    exact ⟨hcfg, hqueue, htime, hnow, fun _ _ => heng, fun _ => ⟨hn, ha, hm, hx.trans, hch, hpa⟩,
      fun _ _ _ _ => hbuf, fun _ _ => hpos, fun _ => hwire⟩
  | starved | skipped | received =>
    obtain ⟨n, hreg, hx⟩ := rxStep_registers h
    obtain ⟨⟨hcfg, hqueue, htime, hnow⟩, heng, ⟨hn, ha, hm⟩, ⟨hch, hpa⟩, -, -, hwire⟩ := registers_eq hreg
    exact ⟨hcfg, hqueue, htime, hnow, fun _ _ => heng, fun _ => ⟨hn, ha, hm, hx, hch, hpa⟩,
      fun _ _ _ hs => absurd rfl hs, fun _ hs => absurd rfl hs, fun _ => hwire⟩
  | ended _ _ he =>
    rcases he.registers with hreg | ⟨rfl, bs, -, hreg⟩
    · obtain ⟨⟨hcfg, hqueue, htime, hnow⟩, heng, ⟨hn, ha, hm⟩, ⟨hch, hpa⟩, hbuf, hpos, hwire⟩ := registers_eq hreg
      exact ⟨hcfg, hqueue, htime, hnow, fun _ _ => heng, fun _ => ⟨hn, ha, hm, he.xfault, hch, hpa⟩,
        fun _ _ _ _ => hbuf, fun _ _ => hpos, fun _ => hwire⟩
    · obtain ⟨⟨hcfg, hqueue, htime, hnow⟩, heng, ⟨hn, ha, hm⟩, ⟨hch, hpa⟩, -, hpos, -⟩ := registers_eq hreg
      exact ⟨hcfg, hqueue, htime, hnow, fun _ _ => heng, fun _ => ⟨hn, ha, hm, he.xfault, hch, hpa⟩,
        fun _ _ hp => absurd rfl hp, fun _ _ => hpos, fun hp => absurd rfl hp⟩

end Sys2Proof.Machine

/-! ## The slots of the channel table: what a step can make of one (R26 to R29, R40) -/

namespace Sys2Proof.Machine

/-! ### The past of a slot -/

/-- The step that ends in `t` does not reset the past of slot `c` and writes no pairing bit to it; a refused `ASSIGN` may
be noted. -/
def KeepsPast (c : Byte) (i : Instr) (t : State) : Prop :=
  ∀ past : Past, (past.after c i t).pairing = past.pairing
    ∧ (past.refusedAssign = true → (past.after c i t).refusedAssign = true)

/-- Only a result `OK` without a value resets a past or writes its pairing bit. -/
theorem KeepsPast.of_result {c : Byte} {i : Instr} {t : State} (h : t.result ≠ some (.ok .none)) :
    KeepsPast c i t := by
  intro past
  cases i with
  | engineOpen | unassign | setPairing => simp [Past.after, h]
  | assign =>
    simp only [Past.after]
    split
    · exact ⟨rfl, fun _ => rfl⟩
    · exact ⟨rfl, id⟩
  | _ => exact ⟨rfl, id⟩

theorem KeepsPast.of_wire {c : Byte} {i : Instr} {t : State} (h : i.space = .wire) : KeepsPast c i t := by
  intro past
  rw [Past.after_wire h]
  exact ⟨rfl, id⟩

/-- A write to another slot leaves the past. -/
theorem SlotWrite.keepsPast {c d : Byte} {i : Instr} {v w : Channel} {t : State} (h : SlotWrite i d v w)
    (hd : d ≠ c) : KeepsPast c i t := by
  intro past
  cases h with
  | assign | unassign => simp [Past.after, hd]
  | _ => exact ⟨rfl, id⟩

/-! ### Every change of a slot -/

/-- What a step of instruction `i` to `t` can make of slot `c`, on which a send was in flight before it or not. -/
inductive SlotChange (i : Instr) (busy : Bool) (t : State) (c : Byte) (v : Channel) : Channel → Prop
  | kept (past : KeepsPast c i t) : SlotChange i busy t c v v
  /-- A transition of R159 that is not `ASSIGN`, `OPEN` or `UNASSIGN`. -/
  | moved (st : ChState) (h : st ≠ .unassigned) : SlotChange i busy t c v { v with state := st }
  /-- A refused write. An `UNASSIGNED` slot is faulted by `ASSIGN` alone, or by the resend of a send in flight. -/
  | faulted (past : KeepsPast c i t)
    (h : v.state = .unassigned → (∃ ty nw, i = .assign c ty nw ∧ t.result = some (.transport (some c)))
      ∨ busy = true) : SlotChange i busy t c v { v with xfault := true }
  | written (w : Channel) (h : SlotWrite i c v w) (ok : t.result = some (.ok .none)) : SlotChange i busy t c v w
  | paired (bit : Bool) (h : i = .setPairing c bit) (ok : t.result = some (.ok .none)) :
    SlotChange i busy t c v { v with pairing := bit }

/-- The table is left as it is. -/
theorem SlotChange.of_ch_eq {i : Instr} {busy : Bool} {s t : State} {c : Byte} {v w : Channel} (hch : t.ch = s.ch)
    (past : KeepsPast c i t) (hv : s.ch[c.toNat]? = some v) (hw : t.ch[c.toNat]? = some w) :
    SlotChange i busy t c v w := by
  obtain rfl : v = w := by rw [hch, hv] at hw; exact Option.some.inj hw
  exact .kept past

/-- One slot is written: slot `d`, which was `u`, becomes `x`. -/
theorem SlotChange.of_ch_set {i : Instr} {busy : Bool} {s t : State} {c d : Byte} {u v w x : Channel}
    (hch : t.ch = s.ch.set d.toNat x) (hu : s.slot? d = some u) (other : d ≠ c → KeepsPast c i t)
    (same : d = c → SlotChange i busy t c u x) (hv : s.ch[c.toNat]? = some v) (hw : t.ch[c.toNat]? = some w) :
    SlotChange i busy t c v w := by
  by_cases hd : d = c
  · subst hd
    obtain rfl : u = v := Option.some.inj ((slot?_eq_some.1 hu).2.symm.trans hv)
    obtain rfl : x = w := by
      have hl := (List.getElem?_eq_some_iff.1 hv).1
      simpa [hch, hl] using hw
    exact same rfl
  · rw [hch, List.getElem?_set_ne (toNat_ne hd), hv] at hw
    cases hw
    exact .kept (other hd)

@[simp] theorem State.cancelPending_ch (s : State) (c : Byte) : (s.cancelPending c).ch = s.ch :=
  cancelPending_elim (P := fun t => t.ch = s.ch) (fun _ => rfl) (fun _ _ => rfl)

@[simp] theorem State.ackCompleted_ch (s : State) (c : Byte) : (s.ackCompleted c).ch = s.ch :=
  ackCompleted_elim (P := fun t => t.ch = s.ch) (fun _ => rfl) (fun _ _ => rfl)

/-- A transfer-failed event writes no slot, or faults the slot of the send in flight. -/
theorem ackFailed_ch {s : State} {c : Byte} {v : Channel} (hv : s.slot? c = some v) :
    (s.ackFailed c).ch = s.ch
      ∨ (s.inFlight? c).isSome = true ∧ (s.ackFailed c).ch = s.ch.set c.toNat { v with xfault := true } := by
  refine ackFailed_elim (P := fun t => t.ch = s.ch ∨ (s.inFlight? c).isSome = true ∧ t.ch = _) (fun _ => .inl rfl)
    (fun _ _ _ _ => .inl rfl) (fun p hp _ _ => .inr ⟨by simp [hp], ?_⟩) (fun _ _ _ => .inl rfl)
  rw [transportFault_slot (s := s.txWrite p.frame) (v := v) hv]
  rfl

theorem Ends.slotChange {i : Instr} {s t : State} {c : Byte} {v w : Channel} (he : Ends i s t)
    (hv : s.ch[c.toNat]? = some v) (hw : t.ch[c.toNat]? = some w) :
    SlotChange i (s.inFlight? c).isSome t c v w := by
  cases he with
  | said r _ done => exact .of_ch_eq rfl (.of_result (by simpa using done)) hv hw
  | noted n r hi => exact .of_ch_eq rfl (.of_wire hi) hv hw
  | viewed d val hi | pollFailed hi | polled hi | requestFailed d _ f hi =>
    subst hi
    exact .of_ch_eq rfl (fun _ => ⟨rfl, id⟩) hv hw
  | sent f hi => cases hi <;> exact .of_ch_eq rfl (fun _ => ⟨rfl, id⟩) hv hw
  | submitted d u kind m f hi => cases hi <;> exact .of_ch_eq rfl (fun _ => ⟨rfl, id⟩) hv hw
  | completed d initId code u hi => exact .of_ch_eq (by simp) (.of_wire (hi ▸ rfl)) hv hw
  | writeFailed d u f hi hu fresh =>
    refine .of_ch_set rfl hu (fun _ => .of_result (by simp)) (fun e => ?_) hv hw
    subst e
    refine .faulted (.of_result (by simp)) fun hs => .inl ?_
    obtain ⟨ty, nw, hi⟩ := fresh hs
    exact ⟨ty, nw, hi, rfl⟩
  | wrote d u x f hi hu =>
    refine .of_ch_set rfl hu hi.keepsPast (fun e => ?_) hv hw
    subst e
    exact .written x hi rfl
  | paired d bit u hi hu =>
    subst hi
    refine .of_ch_set rfl hu (fun hd => fun _ => by simp [Past.after, hd]) (fun e => ?_) hv hw
    subst e
    exact .paired bit rfl rfl
  | closed d u f hi hu =>
    subst hi
    refine .of_ch_set (by simp) hu (fun _ _ => ⟨rfl, id⟩) (fun _ => .moved .closed nofun) hv hw
  | found d u kind seq data hi hu =>
    refine .of_ch_set rfl hu (fun _ => .of_wire ?_) (fun _ => .moved .tracking nofun) hv hw
    cases hi <;> rfl
  | timedOut d initId code u hi hu =>
    exact .of_ch_set (by simp) hu (fun _ => .of_wire (hi ▸ rfl)) (fun _ => .moved .closed nofun) hv hw
  | lost d initId code u hi hu =>
    exact .of_ch_set rfl hu (fun _ => .of_wire (hi ▸ rfl)) (fun _ => .moved .searching nofun) hv hw
  | transferFailed d initId code u hi hu =>
    have wire : i.space = .wire := hi ▸ rfl
    rcases ackFailed_ch (s := s.notify (.channelEvent d initId code)) hu with hch | ⟨busy, hch⟩
    · exact .of_ch_eq hch (.of_wire wire) hv hw
    · exact .of_ch_set hch hu (fun _ => .of_wire wire)
        (fun e => .faulted (.of_wire wire) fun _ => .inr (e ▸ busy)) hv hw

end Sys2Proof.Machine

namespace Sys2Proof.Machine

/-! ### The loops, and `RX_STEP` -/

/-- A pending slot is written in place of a send in flight: no other send is in flight afterwards. -/
theorem isSome_inFlight?_of_setPend {s : State} {c d : Byte} {p : Pending} (hc : (s.inFlight? c).isSome = true)
    (h : ((s.setPend c p).inFlight? d).isSome = true) : (s.inFlight? d).isSome = true := by
  by_cases e : c = d
  · exact e ▸ hc
  · rwa [setPend_inFlight?_ne s p e] at h

@[simp] theorem State.transportFault_inFlight? (s : State) (target : Option Byte) (d : Byte) :
    (s.transportFault target).inFlight? d = s.inFlight? d :=
  transportFault_elim (P := fun t => t.inFlight? d = s.inFlight? d) (fun _ => rfl) (fun _ _ _ => rfl)
    (fun _ _ _ _ => rfl)

/-- What the passes of `TICK` have made of slot `c`, which was `v`, while no new send came into flight. -/
def TickedSlot (s : State) (c : Byte) (v : Channel) (a : State) : Prop :=
  (∀ d, (a.inFlight? d).isSome = true → (s.inFlight? d).isSome = true)
    ∧ (a.ch[c.toNat]? = some v ∨ (s.inFlight? c).isSome = true ∧ a.ch[c.toNat]? = some { v with xfault := true })

theorem TickedSlot.setPend {s a : State} {c d : Byte} {v : Channel} (h : TickedSlot s c v a)
    (hd : (a.inFlight? d).isSome = true) (p : Pending) : TickedSlot s c v (a.setPend d p) :=
  ⟨fun e he => h.1 e (isSome_inFlight?_of_setPend hd he), h.2⟩

theorem TickedSlot.transportFault {s a : State} {c d : Byte} {v : Channel} (h : TickedSlot s c v a)
    (hd : (a.inFlight? d).isSome = true) : TickedSlot s c v (a.transportFault (some d)) := by
  refine transportFault_elim nofun (fun _ _ _ => h) fun e u he hu => ?_
  cases he
  refine ⟨h.1, ?_⟩
  by_cases e : d = c
  · subst e
    have hx : (a.setSlot d { u with xfault := true }).ch[d.toNat]? = some { u with xfault := true } :=
      (slot?_eq_some.1 (setSlot_slot?_same hu)).2
    rcases h.2 with hv | ⟨hb, hv⟩ <;> cases hv.symm.trans (slot?_eq_some.1 hu).2
    · exact .inr ⟨h.1 d hd, hx⟩
    · exact .inr ⟨hb, hx⟩
  · simpa [List.getElem?_set_ne (toNat_ne e)] using h.2

theorem TickedSlot.tickChannel {s : State} {c d : Byte} {v : Channel} {a : State × Option Byte}
    (h : TickedSlot s c v a.1) : TickedSlot s c v (tickChannel a d).1 :=
  tickChannel_elim (P := fun b => TickedSlot s c v b.1) (fun _ => h) (fun _ _ _ => h)
    (fun p hp _ _ _ => h.setPend (by simp [hp]) _)
    (fun p hp _ _ _ => by
      have hf : TickedSlot s c v ((a.1.txWrite p.frame).transportFault (some d)) :=
        TickedSlot.transportFault (a := a.1.txWrite p.frame) h (by simp [hp])
      exact hf.setPend (by simp [hp]) { p with valid := false })
    (fun p hp _ _ => h.setPend (by simp [hp]) _)

/-- A frame changes a slot as its own row does. -/
theorem SlotChange.of_wire {i j : Instr} {busy : Bool} {t : State} {c : Byte} {v w : Channel}
    (h : SlotChange i busy t c v w) (hi : i.space = .wire) (hj : KeepsPast c j t) : SlotChange j busy t c v w := by
  cases h with
  | kept => exact .kept hj
  | moved st hst => exact .moved st hst
  | faulted _ hf =>
    refine .faulted hj fun hu => .inr ?_
    rcases hf hu with ⟨ty, nw, rfl, -⟩ | hb
    · cases hi
    · exact hb
  | written _ hw => cases hw <;> cases hi
  | paired _ hp => subst hp; cases hi

/-- What an instruction other than `ENGINE_OPEN` can make of a slot. -/
theorem exec_slotChange {i : Instr} {s t : State} {c : Byte} {v w : Channel} (h : exec i s = .next t)
    (ho : Claims.isEngineOpen i = false) (hv : s.ch[c.toNat]? = some v) (hw : t.ch[c.toNat]? = some w) :
    SlotChange i (s.inFlight? c).isSome t c v w := by
  cases exec_steps h with
  | opened | openFailed => cases ho
  | stopped =>
    refine .of_ch_eq ?_ (fun _ => ⟨rfl, id⟩) hv hw
    exact cancelFold_elim (P := fun a => a.ch = s.ch) (fun a d ha => by simp [ha]) s.channels s.sample rfl
  | ticked _ r =>
    have hp : KeepsPast c .tick ((s.channels.foldl tickChannel (s.sample, none)).1.raise r) :=
      fun _ => ⟨rfl, id⟩
    obtain ⟨-, hc | ⟨busy, hc⟩⟩ : TickedSlot s c v (s.channels.foldl tickChannel (s.sample, none)).1 :=
      tickFold_elim (P := fun a => TickedSlot s c v a.1) (fun _ _ => TickedSlot.tickChannel) _ _
        ⟨fun _ => id, .inl hv⟩
    · cases hc.symm.trans hw
      exact .kept hp
    · cases hc.symm.trans hw
      exact .faulted hp fun _ => .inr busy
  | starved | skipped => exact .of_ch_eq rfl (fun _ => ⟨rfl, id⟩) hv hw
  | received _ msgId content n _ he =>
    exact (he.slotChange hv hw).of_wire (frameInstr_isLocal s.cfg msgId content).2 fun _ => ⟨rfl, id⟩
  | ended _ _ he => exact he.slotChange hv hw

/-! ### The writers of a slot's fields -/

/-- Settles O39: no way of `SlotChange`, and for a written slot no instruction of `SlotWrite`, writes a field that the
statement does not grant it. -/
theorem slotFieldWriters : Obligations.SlotFieldWriters := by
  intro i s t c v w h ho hv hw
  cases exec_slotChange h ho hv hw with
  | kept | moved | faulted => simp
  | paired _ hi => subst hi; simp
  | written _ hi => cases hi <;> simp

/-! ### Invariant I5 -/

/-- I5 for the slot itself: what `UnassignedInv` says of the slot that channel `c` has. -/
def FreshWhileUnassigned (past : Past) (v : Channel) : Prop :=
  v.state = .unassigned → v.idSet = false ∧ v.rfSet = false ∧ v.periodSet = false
    ∧ v.pairing = past.pairing ∧ (past.refusedAssign = false → v.xfault = false)

theorem FreshWhileUnassigned.keepsPast {past : Past} {v : Channel} {c : Byte} {i : Instr} {t : State}
    (h : FreshWhileUnassigned past v) (hp : KeepsPast c i t) : FreshWhileUnassigned (past.after c i t) v := by
  intro hs
  obtain ⟨hid, hrf, hper, hpair, hx⟩ := h hs
  obtain ⟨ep, er⟩ := hp past
  refine ⟨hid, hrf, hper, hpair.trans ep.symm, fun e => hx ?_⟩
  cases hr : past.refusedAssign
  · rfl
  · rw [er hr] at e
    cases e

/-- Every change of a slot keeps I5, when no send is in flight on an `UNASSIGNED` slot (I1). -/
theorem SlotChange.freshWhileUnassigned {i : Instr} {busy : Bool} {t : State} {c : Byte} {v w : Channel}
    {past : Past} (h : SlotChange i busy t c v w) (idle : v.state = .unassigned → busy = false)
    (hv : FreshWhileUnassigned past v) : FreshWhileUnassigned (past.after c i t) w := by
  cases h with
  | kept hp => exact hv.keepsPast hp
  | moved st hst => exact fun hs => absurd hs hst
  | faulted hp hf =>
    intro hs
    obtain ⟨hid, hrf, hper, hpair, -⟩ := hv.keepsPast hp hs
    refine ⟨hid, hrf, hper, hpair, fun e => ?_⟩
    rcases hf hs with ⟨ty, nw, rfl, hr⟩ | hb
    · simp [Past.after, hr] at e
    · cases hb.symm.trans (idle hs)
  | written _ hi ok =>
    intro hs
    cases hi with
    | assign | openCh => cases hs
    | unassign => simp [Past.after, ok, Past.fresh]
    | setChannelId _ _ _ _ _ ha | setRfFreq _ _ _ ha | setPeriod _ _ _ ha => cases ha.symm.trans hs
  | paired bit hi ok =>
    subst hi
    intro hs
    obtain ⟨hid, hrf, hper, -, hx⟩ := hv hs
    simpa [Past.after, ok] using ⟨hid, hrf, hper, hx⟩

end Sys2Proof.Machine

/-! ## The opened engine: what device-open and reset leave (R41, R280) -/

namespace Sys2Proof.Machine

theorem deviceOpen_slot? {s : State} {n : BitVec 9} {a : Time} {r : Byte} {c : Byte} {v : Channel}
    (h : (s.deviceOpen n a r).slot? c = some v) : v = Channel.fresh :=
  List.eq_of_mem_replicate (List.mem_of_getElem? (slot?_eq_some.1 h).2)

theorem deviceOpen_inFlight? (s : State) (n : BitVec 9) (a : Time) (r : Byte) (c : Byte) :
    (s.deviceOpen n a r).inFlight? c = none := by
  refine inFlight?_eq_none.2 fun p _ hp => ?_
  obtain rfl : p = Pending.fresh := List.eq_of_mem_replicate (List.mem_of_getElem? hp)
  rfl

/-- An engine that has just been opened in a legal configuration meets the invariants. -/
theorem deviceOpen_invariants {s : State} {n : BitVec 9} {a : Time} (r : Byte) (hw : s.cfg.wf = true)
    (range : s.cfg.openRange n a = true) : Invariants (s.deviceOpen n a r) where
  cfgWf := hw
  chLength := List.length_replicate
  paLength := List.length_replicate
  openRange _ := range
  bufferWf := empty_wf _
  unassignedClear c v hv _ := by
    rw [deviceOpen_slot? hv]
    exact ⟨rfl, rfl, rfl⟩
  pendingInv c p hp := by
    rw [deviceOpen_inFlight?] at hp
    cases hp
  closedIdle h := by cases h

/-- Invariant I5 holds of every slot of an engine that has just been opened. -/
theorem deviceOpen_unassignedInv (s : State) (n : BitVec 9) (a : Time) (r : Byte) (c : Byte) :
    UnassignedInv (s.deviceOpen n a r) c .fresh := by
  intro v hv _
  rw [deviceOpen_slot? hv]
  exact ⟨rfl, rfl, rfl, rfl, fun _ => rfl⟩

/-- The reset state is the powered-on block after device-open (R5, R340, assumption 2). -/
theorem reset_eq_deviceOpen : State.reset = (State.powerOn .default).deviceOpen 8#9 50#64 3#8 := rfl

/-- `ENGINE_OPEN n=8, ack_timeout=50, max_retries=3` at power-on: in range, accepted, and the transport opens. -/
theorem openWith_powerOn : openWith 8#9 50#64 3#8 (State.powerOn .default)
    = .next { State.reset with out := [.transportOpen true], result := some (.ok .none) } := by
  have range : (State.powerOn .default).cfg.openRange 8#9 50#64 = true := by decide
  rw [openWith, range, inRange_true, acceptClosed_next]
  exact ⟨rfl, Nat.le_refl 0, rfl⟩

/-- Settles O33: the operands of the examples are the defaults of R6, so both operations are `openWith_powerOn`. -/
theorem resetIsOpenedEngine : Obligations.ResetIsOpenedEngine := by
  refine ⟨?operands, ?defaults⟩
  case operands => exact openWith_powerOn
  case defaults => exact openWith_powerOn

/-- Settles O43: reset is an engine that has just been opened with operands in range. -/
theorem resetSatisfiesInvariants : Obligations.ResetSatisfiesInvariants := by
  unfold Obligations.ResetSatisfiesInvariants
  rw [reset_eq_deviceOpen]
  exact deviceOpen_invariants _ (by decide) (by decide)

/-- An accepted `ENGINE_OPEN` whose transport opens answers `OK`, and I5 holds of every slot. -/
theorem engineOpen_unassignedInv {s t : State} {n : BitVec 9} {a : Option Time} {r : Option Byte} (c : Byte)
    (h : exec (.engineOpen n a r) s = .next t) (ok : s.inp.openOk = true) :
    t.result = some (.ok .none) ∧ UnassignedInv t c .fresh := by
  obtain ⟨-, -, -, ⟨-, rfl⟩ | ⟨no, -⟩⟩ := execEngineOpen_next h
  · exact ⟨rfl, deviceOpen_unassignedInv s.sample.openTransport n (a.getD s.cfg.ackTimeout) (r.getD s.cfg.maxRetries) c⟩
  · rw [ok] at no
    cases no

/-- Settles O46: after an `ENGINE_OPEN` that opened, and after reset, every slot is as device-open leaves it. -/
theorem openedSlotsAreFresh : Obligations.OpenedSlotsAreFresh := by
  refine ⟨?opened, ?atReset⟩
  case opened =>
    intro s t n a r c past ok h
    obtain ⟨hres, hinv⟩ := engineOpen_unassignedInv c h ok
    exact ⟨by simp [Past.after, hres], hinv⟩
  case atReset =>
    intro c
    rw [reset_eq_deviceOpen]
    exact deviceOpen_unassignedInv _ _ _ _ c

end Sys2Proof.Machine

/-! ## Invariant I5, step by step (R40) -/

namespace Sys2Proof.Machine

theorem isEngineOpen_eq_true {i : Instr} (h : Claims.isEngineOpen i = true) : ∃ n a r, i = .engineOpen n a r := by
  cases i with
  | engineOpen n a r => exact ⟨n, a, r, rfl⟩
  | _ => cases h

/-- Every accepted instruction keeps I5 of every slot, when no send is in flight on an `UNASSIGNED` slot (I1). -/
theorem exec_unassignedInv {i : Instr} {s t : State} {c : Byte} {past : Past} (h : exec i s = .next t)
    (length : s.ch.length = s.nCh.toNat)
    (idle : ∀ v, s.slot? c = some v → v.state = .unassigned → s.inFlight? c = none) (hu : UnassignedInv s c past) :
    UnassignedInv t c (past.after c i t) := by
  cases ho : Claims.isEngineOpen i with
  | true =>
    obtain ⟨n, a, r, rfl⟩ := isEngineOpen_eq_true ho
    obtain ⟨-, -, -, ⟨ok, -⟩ | ⟨-, rfl⟩⟩ := execEngineOpen_next h
    · obtain ⟨hres, hinv⟩ := engineOpen_unassignedInv c h ok
      simpa [Past.after, hres] using hinv
    · -- a failed opening leaves the tables and the past
      exact hu
  | false =>
    intro w hw
    obtain ⟨hc, hw⟩ := slot?_eq_some.1 hw
    obtain ⟨-, -, -, -, -, kept, -⟩ := registerWriters i s t h
    rw [(kept ho).1] at hc
    obtain ⟨v, hv⟩ : ∃ v, s.ch[c.toNat]? = some v := ⟨_, List.getElem?_eq_getElem (by omega)⟩
    have hs : s.slot? c = some v := slot?_eq_some.2 ⟨hc, hv⟩
    exact (exec_slotChange h ho hv hw).freshWhileUnassigned (fun e => by simp [idle v hs e]) (hu v hs)

/-- I1 of R40: no send is in flight on an `UNASSIGNED` channel. -/
theorem Invariants.idle_of_unassigned {s : State} (h : Invariants s) {c : Byte} {v : Channel} (hv : s.slot? c = some v)
    (hs : v.state = .unassigned) : s.inFlight? c = none := by
  cases hp : s.inFlight? c with
  | none => rfl
  | some p =>
    obtain ⟨⟨u, hu, ho⟩, -⟩ := h.pendingInv c p hp
    cases hv.symm.trans hu
    rw [hs] at ho
    cases ho

/-- Settles O45: presenting an operation changes neither table, and the instruction it is keeps I5 of every slot by what
it can make of the slot (`SlotChange.freshWhileUnassigned`). -/
theorem stepKeepsUnassignedSlots : Obligations.StepKeepsUnassignedSlots := by
  intro s t p rest i c past hq hi hinv hu h
  rw [step_of_instr_ok hq hi] at h
  exact exec_unassignedInv h hinv.chLength (fun _ => hinv.idle_of_unassigned) hu

end Sys2Proof.Machine

/-! ## The frames of acknowledged sends decode to what was sent (R40 I3, R103, R105, R135) -/

namespace Sys2Proof

/-- `DECODE` of a built frame standing alone. -/
theorem decodeFrame_buildFrame {cfg : Config} {msgId : Byte} {content : List Byte}
    (h : content.length + cfg.lenBias ≤ 255) :
    decodeFrame cfg (buildFrame cfg msgId content) = .frame msgId content (buildFrame cfg msgId content).length := by
  have hlen : (BitVec.ofNat 8 (content.length + cfg.lenBias)).toNat = content.length + cfg.lenBias := by
    rw [BitVec.toNat_ofNat, Nat.mod_eq_of_lt (by omega)]
  rw [buildFrame_length, buildFrame_eq]
  simp only [decodeFrame, syncIndex, if_true, List.drop_zero, hlen]
  rw [if_neg (by omega), if_neg (by simp)]
  simp [List.getD]

namespace Machine

/-- The channel number of a burst is read back from below its sequence field. -/
theorem burstChan_burstByte {cfg : Config} {c : Byte} (seq : Byte) (hb : cfg.burstChBits ≤ 8)
    (hc : c.toNat < 2 ^ cfg.burstChBits) : burstChan cfg (burstByte cfg seq c) = c := by
  have hdvd : 2 ^ cfg.burstChBits ∣ 2 ^ 8 := Nat.pow_dvd_pow 2 hb
  have low : (burstByte cfg seq c).toNat % 2 ^ cfg.burstChBits = c.toNat := by
    rw [burstByte, BitVec.toNat_or, BitVec.toNat_shiftLeft, Nat.or_mod_two_pow, Nat.mod_mod_of_dvd _ hdvd,
      Nat.shiftLeft_eq, Nat.mul_mod_left, Nat.zero_or, Nat.mod_eq_of_lt hc]
  rw [burstChan, low, BitVec.ofNat_toNat, BitVec.setWidth_eq]

/-- I3 of R40 for a frame: it decodes whole to acknowledged or burst data for channel `c`. -/
def CarriesSend (cfg : Config) (c : Byte) (kind : SendKind) (f : Frame) : Prop :=
  ∃ msgId content m, decodeFrame cfg f = .frame msgId content f.length ∧ parse cfg msgId content = .msg m
    ∧ IsSendOn c kind m

/-- The frame of a message whose content parses to a send on `c` carries a send on `c`. -/
theorem carriesSend_of_parses {cfg : Config} {c : Byte} {kind : SendKind} {m m' : Message} {f : Frame}
    (hw : cfg.wf = true) (hf : encodeMsg cfg m = .ok f) (hp : parseContent? cfg m.kind (contentOf cfg m) = some m')
    (hm : IsSendOn c kind m') : CarriesSend cfg c kind f := by
  obtain ⟨-, hlen, rfl⟩ := encodeFrame_eq_ok.1 hf
  obtain ⟨hbias, hmax, -⟩ := Config.wf_bounds hw
  have hk : cfg.kindOf? (cfg.idOf m.kind) = some m.kind := (Config.kindOf?_eq_some (Config.ids_nodup hw)).2 rfl
  refine ⟨_, _, m', decodeFrame_buildFrame (by omega), ?_, hm⟩
  simp only [messageContent, parse, hk, hp]

/-- What the two submissions write carries the send they record. -/
theorem Submits.carriesSend {cfg : Config} {i : Instr} {c : Byte} {kind : SendKind} {m : Message} {f : Frame}
    (h : Submits i c kind m) (hw : cfg.wf = true) (hc : c.toNat < 2 ^ cfg.burstChBits)
    (hf : encodeMsg cfg m = .ok f) : CarriesSend cfg c kind f := by
  cases h with
  | ack _ data =>
    exact carriesSend_of_parses hw hf (m' := .acknowledgedData c data)
      (by simp [Message.kind, contentOf, parseContent?]) ⟨data, rfl⟩
  | burst _ seq data =>
    obtain ⟨-, -, -, -, hb⟩ := Config.wf_bounds hw
    have parses : parseContent? cfg .burstData (contentOf cfg (.burstData c (seq.setWidth 8) data))
        = some (.burstData c (burstSeq cfg (burstByte cfg (seq.setWidth 8) c)) data) := by
      simp [contentOf, parseContent?, burstChan_burstByte _ hb hc]
    exact carriesSend_of_parses hw hf parses ⟨_, data, rfl⟩

end Machine

end Sys2Proof

/-! ## The sends in flight (R40 I1, I2, I3, I6) -/

namespace Sys2Proof.Machine

/-- I1, I2, I3 and I6 of R40 for every send in flight. -/
def SendsInv (s : State) : Prop := ∀ c p, s.inFlight? c = some p → PendingInv s c p

/-- What I1, I2, I3 and I6 read: the configuration, two registers, the two tables, and `t_last`, which may advance. -/
theorem SendsInv.congr {s t : State} (h : SendsInv s) (hcfg : t.cfg = s.cfg) (hn : t.nCh = s.nCh)
    (hm : t.maxRetries = s.maxRetries) (hch : t.ch = s.ch) (hpa : t.pa = s.pa)
    (time : s.tLast.toNat ≤ t.tLast.toNat) : SendsInv t := by
  intro c p hp
  have hp : s.inFlight? c = some p := by simpa [State.inFlight?, State.pend?, hn, hpa] using hp
  obtain ⟨⟨v, hv, hopen⟩, hret, hframe, hsent⟩ := h c p hp
  refine ⟨⟨v, ?_, hopen⟩, hm ▸ hret, hcfg ▸ hframe, Nat.le_trans hsent time⟩
  simpa [State.slot?, hn, hch] using hv

/-- I1 needs of a slot no more than that it stays open. -/
theorem SendsInv.setSlot {s : State} {c : Byte} {v w : Channel} (h : SendsInv s) (hv : s.slot? c = some v)
    (ho : v.state.isOpen = true → w.state.isOpen = true) : SendsInv (s.setSlot c w) := by
  intro d p hp
  obtain ⟨⟨u, hu, hopen⟩, rest⟩ := h d p hp
  refine ⟨?_, rest⟩
  by_cases e : c = d
  · subst e
    cases hv.symm.trans hu
    exact ⟨w, setSlot_slot?_same hv, ho hopen⟩
  · exact ⟨u, (setSlot_slot?_ne s w e).trans hu, hopen⟩

theorem SendsInv.setPend {s : State} {c : Byte} {p : Pending} (h : SendsInv s) (hp : PendingInv s c p) :
    SendsInv (s.setPend c p) := by
  intro d q hq
  by_cases e : c = d
  · subst e
    obtain ⟨-, hget, -⟩ := inFlight?_eq_some.1 hq
    have hl : c.toNat < s.pa.length := by simpa using (List.getElem?_eq_some_iff.1 hget).1
    obtain rfl : p = q := by simpa [hl] using hget
    exact hp
  · exact h d q ((setPend_inFlight?_ne s p e).symm.trans hq)

theorem SendsInv.resolve {s : State} (c : Byte) (p : Pending) (o : AckOutcome) (h : SendsInv s) :
    SendsInv (s.resolve c p o) := by
  intro d q hq
  by_cases e : c = d
  · subst e
    rw [resolve_inFlight?_same] at hq
    cases hq
  · exact h d q ((resolve_inFlight?_ne s p o e).symm.trans hq)

theorem SendsInv.transportFault {s : State} (target : Option Byte) (h : SendsInv s) :
    SendsInv (s.transportFault target) :=
  transportFault_elim (fun _ => h) (fun _ _ _ => h) fun _ v _ hv => h.setSlot (w := { v with xfault := true }) hv id

/-- A channel may leave the open states when its send is cancelled with it (R167, R213). -/
theorem SendsInv.closeSlot {s : State} (c : Byte) (w : Channel) (h : SendsInv s) :
    SendsInv ((s.setSlot c w).cancelPending c) := by
  have others : ∀ d p, c ≠ d → s.inFlight? d = some p → PendingInv (s.setSlot c w) d p := by
    intro d p e hp
    obtain ⟨⟨u, hu, hopen⟩, rest⟩ := h d p hp
    exact ⟨⟨u, (setSlot_slot?_ne s w e).trans hu, hopen⟩, rest⟩
  refine cancelPending_elim (fun idle d p hp => ?_) (fun q _ d p hp => ?_)
  · have e : c ≠ d := by
      rintro rfl
      cases idle.symm.trans hp
    exact others d p e hp
  · have e : c ≠ d := by
      rintro rfl
      cases (resolve_inFlight?_same _ c q _).symm.trans hp
    exact others d p e ((resolve_inFlight?_ne (s.setSlot c w) q .cancelled e).symm.trans hp)

/-- A resend counts one retry more and is timed now (R246). -/
theorem SendsInv.resend {s : State} {c : Byte} {p : Pending} (h : SendsInv s) (hp : s.inFlight? c = some p)
    (left : p.retries.toNat < s.maxRetries.toNat) (time : s.tLast = s.inp.now) :
    SendsInv ((s.txWrite p.frame).setPend c { p with retries := p.retries + 1#8, sentAt := s.inp.now }) := by
  obtain ⟨hopen, -, hframe, -⟩ := h c p hp
  refine SendsInv.setPend (s := s.txWrite p.frame) h ⟨hopen, ?_, hframe, ?_⟩
  · have := s.maxRetries.isLt
    simp only [BitVec.toNat_add, BitVec.toNat_ofNat, State.txWrite_maxRetries]
    omega
  · simp [time]

theorem SendsInv.ackFailed {s : State} (c : Byte) (h : SendsInv s) (time : s.tLast = s.inp.now) :
    SendsInv (s.ackFailed c) :=
  ackFailed_elim (fun _ => h) (fun _ hp left _ => h.resend hp left time)
    (fun p _ _ _ => (SendsInv.transportFault (s := s.txWrite p.frame) (some c) h).resolve c p .transport)
    (fun p _ _ => h.resolve c p .failed)

theorem SendsInv.cancelPending {s : State} (c : Byte) (h : SendsInv s) : SendsInv (s.cancelPending c) :=
  cancelPending_elim (fun _ => h) fun p _ => h.resolve c p .cancelled

theorem SendsInv.ackCompleted {s : State} (c : Byte) (h : SendsInv s) : SendsInv (s.ackCompleted c) :=
  ackCompleted_elim (fun _ => h) fun p _ => h.resolve c p .success

theorem SendsInv.tickChannel {a : State × Option Byte} (c : Byte) (h : SendsInv a.1) (time : a.1.tLast = a.1.inp.now) :
    SendsInv (tickChannel a c).1 :=
  tickChannel_elim (P := fun b => SendsInv b.1) (fun _ => h) (fun _ _ _ => h)
    (fun _ hp _ left _ => h.resend hp left time)
    (fun p _ _ _ _ => (SendsInv.transportFault (s := a.1.txWrite p.frame) (some c) h).resolve c p .transport)
    (fun p _ _ _ => h.resolve c p .failed)

/-- No `SlotWrite` starts from an open channel. -/
theorem SlotWrite.not_isOpen {i : Instr} {c : Byte} {v w : Channel} (h : SlotWrite i c v w) :
    v.state.isOpen = false := by
  cases h with
  | assign _ _ _ _ hs | setChannelId _ _ _ _ _ hs | setRfFreq _ _ _ hs | setPeriod _ _ _ hs | openCh _ _ hs
  | unassign _ _ hs => rw [hs]; rfl

/-- Every instruction that `Ends` speaks of keeps what I1, I2, I3 and I6 say of the sends in flight. -/
theorem Ends.sendsInv {i : Instr} {s t : State} (he : Ends i s t) (h : SendsInv s) (time : s.tLast = s.inp.now)
    (hw : s.cfg.wf = true) (hn : s.nCh.toNat ≤ 2 ^ s.cfg.burstChBits) : SendsInv t := by
  cases he with
  | said | noted | viewed | polled | sent => exact h
  | pollFailed => exact h.transportFault none
  | requestFailed _ _ f => exact SendsInv.transportFault (s := s.txWrite f) none h
  | writeFailed c v f _ hv => exact SendsInv.setSlot (s := s.txWrite f) h hv id
  | wrote c v w f hi hv =>
    refine SendsInv.setSlot (s := s.txWrite f) h hv fun ho => ?_
    rw [hi.not_isOpen] at ho
    cases ho
  | paired c bit v _ hv => exact h.setSlot (w := { v with pairing := bit }) hv id
  | closed c v f => exact SendsInv.closeSlot (s := s.txWrite f) c _ h
  | submitted c v kind m f hi hv ho _ hf =>
    refine SendsInv.setPend (s := s.txWrite f) h ⟨⟨v, hv, ho⟩, Nat.zero_le _, ?_, ?_⟩
    · exact hi.carriesSend hw (Nat.lt_of_lt_of_le (slot?_eq_some.1 hv).1 hn) hf
    · simp [time]
  | found c v _ _ _ _ hv => exact h.setSlot (w := { v with state := .tracking }) hv fun _ => rfl
  | lost c initId code v _ hv =>
    exact SendsInv.setSlot (s := s.notify (.channelEvent c initId code)) (w := { v with state := .searching }) h hv
      fun _ => rfl
  | timedOut c initId code => exact SendsInv.closeSlot (s := s.notify (.channelEvent c initId code)) c _ h
  | completed c initId code => exact SendsInv.ackCompleted (s := s.notify (.channelEvent c initId code)) c h
  | transferFailed c initId code => exact SendsInv.ackFailed (s := s.notify (.channelEvent c initId code)) c h time

/-! ### Nothing is in flight once the engine is closed (R281) -/

theorem cancelPending_idle_same (s : State) (c : Byte) : (s.cancelPending c).inFlight? c = none :=
  cancelPending_elim (P := fun t => t.inFlight? c = none) id fun p _ => resolve_inFlight?_same s c p _

theorem cancelPending_keeps_idle {s : State} {d : Byte} (c : Byte) (h : s.inFlight? d = none) :
    (s.cancelPending c).inFlight? d = none := by
  by_cases e : c = d
  · exact e ▸ cancelPending_idle_same s c
  · exact cancelPending_elim (P := fun t => t.inFlight? d = none) (fun _ => h)
      fun p _ => (resolve_inFlight?_ne s p _ e).trans h

theorem cancelFold_idle {c : Byte} : ∀ (cs : List Byte) (s : State), c ∈ cs ∨ s.inFlight? c = none →
    (cs.foldl State.cancelPending s).inFlight? c = none
  | [], _, h => h.resolve_left List.not_mem_nil
  | d :: cs, s, h => by
    refine cancelFold_idle cs (s.cancelPending d) ?_
    rcases h with h | h
    · rcases List.mem_cons.1 h with rfl | h
      · exact .inr (cancelPending_idle_same s c)
      · exact .inl h
    · exact .inr (cancelPending_keeps_idle d h)

/-- After the cancellations of `ENGINE_CLOSE` no send is in flight. -/
theorem cancelAll_idle (s : State) (c : Byte) : (s.channels.foldl State.cancelPending s.sample).inFlight? c = none := by
  refine cancelFold_idle s.channels s.sample ?_
  by_cases hc : c.toNat < s.nCh.toNat
  · exact .inl (List.mem_map.2 ⟨c.toNat, List.mem_range.2 hc, by simp⟩)
  · exact .inr (inFlight?_eq_none.2 fun p hlt => absurd hlt hc)

/-! ### Every instruction -/

theorem bufferWf_of_registers {s t : State} (hreg : t.registers = s.registers)
    (hb : Memory.wf s.cfg.rxbufCap s.rxbuf = true) : Memory.wf t.cfg.rxbufCap t.rxbuf = true := by
  obtain ⟨⟨hcfg, -⟩, -, -, -, hbuf, -⟩ := registers_eq hreg
  rwa [hcfg, hbuf]

/-- The buffer stays within its capacity (I4, R66). -/
theorem exec_bufferWf {i : Instr} {s t : State} (h : exec i s = .next t)
    (hb : Memory.wf s.cfg.rxbufCap s.rxbuf = true) : Memory.wf t.cfg.rxbufCap t.rxbuf = true := by
  cases exec_steps h with
  | opened | stopped => exact empty_wf _
  | openFailed => exact hb
  | ticked => exact bufferWf_of_registers (tickFold_registers s.channels (s.sample, none)).1 hb
  | starved | skipped | received =>
    obtain ⟨n, hreg, -⟩ := rxStep_registers h
    exact bufferWf_of_registers hreg (rxDrop_wf (s := s.sample) n hb)
  | ended _ _ he =>
    rcases he.registers with hreg | ⟨-, bs, fits, hreg⟩
    · exact bufferWf_of_registers hreg hb
    · exact bufferWf_of_registers hreg (rxAppend_wf (s := { s.sample with wire := s.wire.drop bs.length }) bs hb fits)

/-- The sends in flight, after an instruction other than `ENGINE_OPEN`. -/
theorem exec_sendsInv {i : Instr} {s t : State} (h : exec i s = .next t) (ho : Claims.isEngineOpen i = false)
    (hs : Invariants s) : SendsInv t := by
  have sampled : s.Ready → SendsInv s.sample := fun hr => SendsInv.congr hs.pendingInv rfl rfl rfl rfl rfl hr.2
  have range : s.Ready → s.nCh.toNat ≤ 2 ^ s.cfg.burstChBits := by
    intro hr
    have := hs.openRange hr.1
    simp only [Config.openRange, Bool.and_eq_true, decide_eq_true_eq] at this
    omega
  cases exec_steps h with
  | opened | openFailed => cases ho
  | stopped hr =>
    intro c p hp
    cases (cancelAll_idle s c).symm.trans hp
  | ticked hr =>
    have fold := tickFold_elim (P := fun a => SendsInv a.1 ∧ a.1.tLast = a.1.inp.now)
      (fun a c ⟨ha, time⟩ => by
        obtain ⟨⟨-, -, htime, hnow⟩, -⟩ := registers_eq (tickChannel_registers a c)
        exact ⟨ha.tickChannel c time, by rw [htime, hnow, time]⟩)
      s.channels (s.sample, none) ⟨sampled hr, rfl⟩
    exact fold.1
  | starved hr | skipped hr => exact (sampled hr).congr rfl rfl rfl rfl rfl (Nat.le_refl _)
  | received hr _ _ n _ he =>
    exact he.sendsInv (s := (s.rxDrop n).sample) (sampled hr) rfl hs.cfgWf (range hr)
  | ended hr _ he => exact he.sendsInv (sampled hr) rfl hs.cfgWf (range hr)

/-- An instruction other than `ENGINE_OPEN` that is accepted finds the engine open. -/
theorem exec_ready {i : Instr} {s t : State} (h : exec i s = .next t) (ho : Claims.isEngineOpen i = false) :
    s.Ready := by
  cases exec_steps h with
  | opened | openFailed => cases ho
  | stopped hr | ticked hr | starved hr | skipped hr | received hr | ended hr => exact hr

/-- What the invariants read, beside what `SendsInv.congr` lists. -/
theorem Invariants.congr {s t : State} (h : Invariants s) (hcfg : t.cfg = s.cfg) (heng : t.eng = s.eng)
    (hn : t.nCh = s.nCh) (ha : t.ackTimeout = s.ackTimeout) (hm : t.maxRetries = s.maxRetries) (hch : t.ch = s.ch)
    (hpa : t.pa = s.pa) (hbuf : t.rxbuf = s.rxbuf) (time : s.tLast.toNat ≤ t.tLast.toNat) : Invariants t where
  cfgWf := hcfg ▸ h.cfgWf
  chLength := by rw [hch, hn, h.chLength]
  paLength := by rw [hpa, hn, h.paLength]
  openRange := by
    rw [heng, hcfg, hn, ha]
    exact h.openRange
  bufferWf := by
    rw [hcfg, hbuf]
    exact h.bufferWf
  unassignedClear c v hv := h.unassignedClear c v (by simpa [State.slot?, hn, hch] using hv)
  pendingInv := SendsInv.congr h.pendingInv hcfg hn hm hch hpa time
  closedIdle hc c := by simpa [State.inFlight?, State.pend?, hn, hpa] using h.closedIdle (heng ▸ hc) c

/-- The valid bits of an `UNASSIGNED` slot are part of I5, against any past that fits the slot. -/
theorem exec_unassignedClear {i : Instr} {s t : State} (h : exec i s = .next t) (hs : Invariants s) (c : Byte)
    (w : Channel) (hw : t.slot? c = some w) (hu : w.state = .unassigned) :
    w.idSet = false ∧ w.rfSet = false ∧ w.periodSet = false := by
  obtain ⟨past, hpast⟩ : ∃ past, UnassignedInv s c past := by
    cases hv : s.slot? c with
    | none => exact ⟨.fresh, fun v hv' => by simp [hv] at hv'⟩
    | some v =>
      refine ⟨⟨v.pairing, true⟩, fun v' hv' hu' => ?_⟩
      cases hv.symm.trans hv'
      obtain ⟨hid, hrf, hper⟩ := hs.unassignedClear c v hv hu'
      exact ⟨hid, hrf, hper, rfl, nofun⟩
  obtain ⟨hid, hrf, hper, -⟩ := exec_unassignedInv h hs.chLength (fun _ => hs.idle_of_unassigned) hpast w hw hu
  exact ⟨hid, hrf, hper⟩

/-- Every accepted instruction keeps the invariants. -/
theorem exec_invariants {i : Instr} {s t : State} (h : exec i s = .next t) (hs : Invariants s) : Invariants t := by
  cases ho : Claims.isEngineOpen i with
  | true =>
    obtain ⟨n, a, r, rfl⟩ := isEngineOpen_eq_true ho
    obtain ⟨range, -, time, ⟨-, rfl⟩ | ⟨-, rfl⟩⟩ := execEngineOpen_next h
    · have opened : Invariants (s.sample.openTransport.deviceOpen n (a.getD s.cfg.ackTimeout)
          (r.getD s.cfg.maxRetries)) := deviceOpen_invariants _ hs.cfgWf range
      exact opened.congr rfl rfl rfl rfl rfl rfl rfl rfl (Nat.le_refl _)
    · rw [transportFault_engine]
      exact hs.congr rfl rfl rfl rfl rfl rfl rfl rfl time
  | false =>
    obtain ⟨hcfg, -, -, -, heng, kept, -⟩ := registerWriters i s t h
    obtain ⟨hn, ha, -, -, hch, hpa⟩ := kept ho
    refine
      { cfgWf := hcfg ▸ hs.cfgWf
        chLength := by rw [hch, hn, hs.chLength]
        paLength := by rw [hpa, hn, hs.paLength]
        openRange := fun _ => by rw [hcfg, hn, ha]; exact hs.openRange (exec_ready h ho).1
        bufferWf := exec_bufferWf h hs.bufferWf
        unassignedClear := exec_unassignedClear h hs
        pendingInv := exec_sendsInv h ho hs
        closedIdle := fun hc c => ?_ }
    by_cases hi : i = .engineClose
    · subst hi
      obtain ⟨-, rfl⟩ := execEngineClose_next.1 h
      exact cancelAll_idle s c
    · rw [heng ho hi, (exec_ready h ho).1] at hc
      cases hc

/-- A step that gives a next state executes the operation at the head of the queue. -/
theorem step_next {s t : State} (h : step s = .next t) : ∃ p rest i, s.queue = p :: rest ∧ p.instr = .ok i
    ∧ exec i (s.present p rest) = .next t := by
  cases hq : s.queue with
  | nil => cases (step_of_queue_nil hq).symm.trans h
  | cons p rest =>
    cases hi : p.instr with
    | error e => cases (step_of_instr_error hq hi).symm.trans h
    | ok i => exact ⟨p, rest, i, rfl, hi, (step_of_instr_ok hq hi).symm.trans h⟩

/-- Settles O44: a step presents an operation, which the invariants do not read, and executes it. -/
theorem stepKeepsInvariants : Obligations.StepKeepsInvariants := by
  intro s t hs h
  obtain ⟨p, rest, i, -, -, h⟩ := step_next h
  exact exec_invariants h (hs.congr rfl rfl rfl rfl rfl rfl rfl rfl (Nat.le_refl _))

end Sys2Proof.Machine

/-! ## The outputs: what a step appends to them, and the frames among it (R34, R35, R71) -/

namespace Sys2Proof.Machine

/-- The outputs of `t` are those of `s` and more, the frames among these being `fs`. -/
def Writes (fs : List Frame) (s t : State) : Prop := ∃ es, t.out = s.out ++ es ∧ txStream es = fs

theorem Writes.refl (s : State) : Writes [] s s := ⟨[], (List.append_nil _).symm, rfl⟩

theorem Writes.notify {fs : List Frame} {s t : State} (h : Writes fs s t) (n : Notification) :
    Writes fs s (t.notify n) := by
  obtain ⟨es, hout, hfs⟩ := h
  exact ⟨es ++ [.note n], by simp [hout], by simpa [txStream] using hfs⟩

theorem Writes.txWrite (s : State) (f : Frame) : Writes [f] s (s.txWrite f) := ⟨[.tx f s.txAnswer], rfl, rfl⟩

theorem Writes.trans {fs gs : List Frame} {s t u : State} (h : Writes fs s t) (k : Writes gs t u) :
    Writes (fs ++ gs) s u := by
  obtain ⟨es, hout, rfl⟩ := h
  obtain ⟨es', hout', rfl⟩ := k
  exact ⟨es ++ es', by simp [hout, hout'], by simp [txStream]⟩

theorem Writes.transportFault {fs : List Frame} {s t : State} (h : Writes fs s t) (target : Option Byte) :
    Writes fs s (t.transportFault target) :=
  transportFault_elim (fun _ => Writes.notify (t := { t with xfault := true }) h _) (fun _ _ _ => h.notify _)
    (fun c v _ _ => Writes.notify (t := t.setSlot c { v with xfault := true }) h _)

theorem Writes.resolve {fs : List Frame} {s t : State} (h : Writes fs s t) (c : Byte) (p : Pending) (o : AckOutcome) :
    Writes fs s (t.resolve c p o) := Writes.notify (t := t.setPend c { p with valid := false }) h _

theorem Writes.cancelPending {fs : List Frame} {s t : State} (h : Writes fs s t) (c : Byte) :
    Writes fs s (t.cancelPending c) := cancelPending_elim (fun _ => h) fun p _ => h.resolve c p .cancelled

theorem Writes.ackCompleted {fs : List Frame} {s t : State} (h : Writes fs s t) (c : Byte) :
    Writes fs s (t.ackCompleted c) := ackCompleted_elim (fun _ => h) fun p _ => h.resolve c p .success

/-- A transfer-failed event writes no frame, or the frame of the send in flight (R245, R246). -/
theorem ackFailed_writes (s : State) (c : Byte) :
    Writes [] s (s.ackFailed c) ∨ ∃ p, s.inFlight? c = some p ∧ Writes [p.frame] s (s.ackFailed c) :=
  ackFailed_elim (P := fun t => Writes [] s t ∨ ∃ p, s.inFlight? c = some p ∧ Writes [p.frame] s t)
    (fun _ => .inl (Writes.refl s)) (fun p hp _ _ => .inr ⟨p, hp, Writes.txWrite s p.frame⟩)
    (fun p hp _ _ => .inr ⟨p, hp, ((Writes.txWrite s p.frame).transportFault (some c)).resolve c p .transport⟩)
    (fun p _ _ => .inl ((Writes.refl s).resolve c p .failed))

/-- One pass of `TICK` appends. -/
theorem tickChannel_writes (a : State × Option Byte) (c : Byte) : ∃ fs, Writes fs a.1 (tickChannel a c).1 :=
  tickChannel_elim (P := fun b => ∃ fs, Writes fs a.1 b.1) (fun _ => ⟨[], Writes.refl a.1⟩)
    (fun _ _ _ => ⟨[], Writes.refl a.1⟩) (fun p _ _ _ _ => ⟨[p.frame], Writes.txWrite a.1 p.frame⟩)
    (fun p _ _ _ _ =>
      ⟨[p.frame], ((Writes.txWrite a.1 p.frame).transportFault (some c)).resolve c p .transport⟩)
    (fun p _ _ _ => ⟨[], (Writes.refl a.1).resolve c p .failed⟩)

/-- The frames one instruction other than `TICK` may write: none; one, when it is an operation of a port; the frame in
flight on the event's channel, when it is a transfer-failed event. -/
inductive FramesOf (i : Instr) (inFlight : Byte → Option Pending) : List Frame → Prop
  | none : FramesOf i inFlight []
  | operation (f : Frame) (hi : i.space ≠ .wire) : FramesOf i inFlight [f]
  | resend (chan initId : Byte) (p : Pending) (hi : i = .evtTransferTxFailed chan initId)
    (hp : inFlight chan = some p) : FramesOf i inFlight [p.frame]

theorem FramesOf.length_le {i : Instr} {inFlight : Byte → Option Pending} {fs : List Frame}
    (h : FramesOf i inFlight fs) : fs.length ≤ 1 := by
  cases h with
  | none => exact Nat.zero_le 1
  | operation | resend => exact Nat.le_refl 1

theorem FramesOf.of_wire {i : Instr} {inFlight : Byte → Option Pending} {fs : List Frame}
    (h : FramesOf i inFlight fs) (hi : i.space = .wire) (hfs : fs ≠ []) :
    ∃ chan initId p, i = .evtTransferTxFailed chan initId ∧ inFlight chan = some p ∧ fs = [p.frame] := by
  cases h with
  | none => exact absurd rfl hfs
  | operation f hw => exact absurd hi hw
  | resend chan initId p he hp => exact ⟨chan, initId, p, he, hp, rfl⟩

theorem WritesFor.space_ne {i : Instr} {c : Byte} (h : WritesFor i c) : i.space ≠ .wire := by
  cases h <;> exact nofun

theorem SlotWrite.space_ne {i : Instr} {c : Byte} {v w : Channel} (h : SlotWrite i c v w) : i.space ≠ .wire := by
  cases h <;> exact nofun

theorem SendsOnly.space_ne {i : Instr} (h : SendsOnly i) : i.space ≠ .wire := by
  cases h <;> exact nofun

theorem Submits.space_ne {i : Instr} {c : Byte} {kind : SendKind} {m : Message} (h : Submits i c kind m) :
    i.space ≠ .wire := by
  cases h <;> exact nofun

/-- What an instruction that `Ends` speaks of appends to the outputs. -/
theorem Ends.writes {i : Instr} {s t : State} (he : Ends i s t) : ∃ fs, FramesOf i s.inFlight? fs ∧ Writes fs s t := by
  cases he with
  | said | viewed | polled | paired => exact ⟨[], .none, Writes.refl s⟩
  | noted n => exact ⟨[], .none, (Writes.refl s).notify n⟩
  | pollFailed => exact ⟨[], .none, (Writes.refl s).transportFault none⟩
  | sent f hi => exact ⟨[f], .operation f hi.space_ne, Writes.txWrite s f⟩
  | requestFailed ch reqId f hi =>
    exact ⟨[f], .operation f (by rw [hi]; exact nofun), (Writes.txWrite s f).transportFault none⟩
  | writeFailed c v f hi =>
    exact ⟨[f], .operation f hi.space_ne,
      Writes.notify (t := (s.txWrite f).setSlot c { v with xfault := true }) (Writes.txWrite s f) _⟩
  | wrote c v w f hi => exact ⟨[f], .operation f hi.space_ne, Writes.txWrite s f⟩
  | closed c v f hi =>
    exact ⟨[f], .operation f (by rw [hi]; exact nofun),
      Writes.cancelPending (t := (s.txWrite f).setSlot c { v with state := .closed }) (Writes.txWrite s f) c⟩
  | submitted c v kind m f hi => exact ⟨[f], .operation f hi.space_ne, Writes.txWrite s f⟩
  | found c v kind seq data =>
    have tracked : Writes [] s (s.setSlot c { v with state := .tracking }) := Writes.refl s
    exact ⟨[], .none, (tracked.notify _).notify _⟩
  | timedOut c initId code v =>
    have told := (Writes.refl s).notify (.channelEvent c initId code)
    exact ⟨[], .none, Writes.cancelPending
      (t := (s.notify (.channelEvent c initId code)).setSlot c { v with state := .closed }) told c⟩
  | lost c initId code => exact ⟨[], .none, (Writes.refl s).notify (.channelEvent c initId code)⟩
  | completed c initId code =>
    exact ⟨[], .none, ((Writes.refl s).notify (.channelEvent c initId code)).ackCompleted c⟩
  | transferFailed c initId code v hi =>
    have told := (Writes.refl s).notify (.channelEvent c initId code)
    rcases ackFailed_writes (s.notify (.channelEvent c initId code)) c with h | ⟨p, hp, h⟩
    · exact ⟨[], .none, told.trans h⟩
    · exact ⟨[p.frame], .resend c initId p hi hp, told.trans h⟩

theorem running_rxStep {s : State} {msgId : Byte} {content : List Byte} {n : Nat}
    (h : decodeFrame s.cfg s.rxbuf = .frame msgId content n) : s.running .rxStep = frameInstr s.cfg msgId content := by
  simp [State.running, h]

theorem running_eq_self {i : Instr} (s : State) (h : i ≠ .rxStep) : s.running i = i := by
  cases i with
  | rxStep => exact absurd rfl h
  | _ => rfl

/-- What every instruction other than `TICK` appends to the outputs; `RX_STEP` for the row that it runs. -/
theorem exec_writes {i : Instr} {s t : State} (h : exec i s = .next t) (hi : i ≠ .tick) :
    ∃ fs, FramesOf (s.running i) s.inFlight? fs ∧ Writes fs s t := by
  cases exec_steps h with
  | opened => exact ⟨[], .none, [.transportOpen s.inp.openOk], rfl, rfl⟩
  | openFailed =>
    have opened : Writes [] s s.sample.openTransport := ⟨[.transportOpen s.inp.openOk], rfl, rfl⟩
    exact ⟨[], .none, opened.transportFault none⟩
  | stopped =>
    have cancelled := cancelFold_elim (P := Writes [] s) (fun _ c ha => ha.cancelPending c) s.channels s.sample
      (Writes.refl s)
    have stop : ∀ u : State, Writes [] u u.engineStop := fun _ => ⟨[.transportClose], rfl, rfl⟩
    exact ⟨[], .none, cancelled.trans (stop _)⟩
  | ticked => exact absurd rfl hi
  | starved => exact ⟨[], .none, Writes.refl s⟩
  | skipped _ skip => exact ⟨[], .none, Writes.notify (t := s.sample.rxDrop (skip + 1)) (Writes.refl s) _⟩
  | received _ msgId content n hd he =>
    rw [running_rxStep hd]
    exact he.writes
  | ended _ hl he =>
    rw [running_eq_self s (by rintro rfl; cases hl)]
    exact he.writes

theorem tick_writes {s t : State} (h : exec .tick s = .next t) : ∃ fs, Writes fs s t := by
  have fold := tickFold_elim (P := fun a => ∃ fs, Writes fs s a.1)
    (fun a c ⟨fs, ha⟩ => by
      obtain ⟨gs, hc⟩ := tickChannel_writes a c
      exact ⟨fs ++ gs, ha.trans hc⟩)
    s.channels (s.sample, none) ⟨[], Writes.refl s⟩
  obtain ⟨-, rfl⟩ := execTick_next.1 h
  split <;> exact fold

/-- Settles O40: `TICK` appends and is no frame; of every other instruction `FramesOf` lists the frames. -/
theorem outputsAppended : Obligations.OutputsAppended := by
  intro i s t h
  by_cases hi : i = .tick
  · subst hi
    obtain ⟨fs, es, hout, -⟩ := tick_writes h
    exact ⟨es, hout, fun e => absurd rfl e, nofun⟩
  · obtain ⟨fs, hfs, es, hout, rfl⟩ := exec_writes h hi
    exact ⟨es, hout, fun _ => hfs.length_le, fun hw => hfs.of_wire (by simpa [Claims.isFrame] using hw)⟩

end Sys2Proof.Machine

/-! ## The receive buffer: how many bytes a poll adds and a step removes (R66, R140, R284) -/

namespace Sys2Proof

/-- How many bytes `RX_STEP` takes off the head of the buffer on each verdict of `DECODE` (R140). -/
def Verdict.removed : Verdict → Nat
  | .needMoreData skip => skip
  | .checksumError skip => skip + 1
  | .frame _ _ consumed => consumed

/-- `DECODE` either takes off exactly the bytes before the sync byte, and then what follows is shorter than the largest
frame, or it takes off more. -/
theorem decodeFrame_removed (cfg : Config) (buf : List Byte) :
    (decodeFrame cfg buf = .needMoreData (syncIndex cfg buf) ∧ buf.length < syncIndex cfg buf + cfg.largestFrame)
      ∨ ((∀ skip, decodeFrame cfg buf ≠ .needMoreData skip) ∧ syncIndex cfg buf < (decodeFrame cfg buf).removed) := by
  refine decodeFrame_elim (P := fun v => (v = .needMoreData (syncIndex cfg buf) ∧ _)
    ∨ ((∀ skip, v ≠ .needMoreData skip) ∧ syncIndex cfg buf < v.removed)) ?short ?badLength ?cut ?bad ?good
  case short =>
    intro h
    refine .inl ⟨rfl, ?_⟩
    unfold Config.largestFrame
    omega
  case cut =>
    intro len rest hd _ hr
    have hlen := congrArg List.length hd
    have := len.isLt
    simp only [List.length_drop, List.length_cons] at hlen
    refine .inl ⟨rfl, ?_⟩
    unfold Config.largestFrame
    omega
  case badLength =>
    intro _ _ _ _
    exact .inr ⟨nofun, Nat.lt_succ_self _⟩
  case bad =>
    intro _ _ _ _ _ _ _ _
    exact .inr ⟨nofun, Nat.lt_succ_self _⟩
  case good =>
    intro _ _ content _ _ _ _ _
    refine .inr ⟨nofun, ?_⟩
    simp only [Verdict.removed]
    omega

theorem syncIndex_le_removed (cfg : Config) (buf : List Byte) : syncIndex cfg buf ≤ (decodeFrame cfg buf).removed := by
  rcases decodeFrame_removed cfg buf with ⟨h, -⟩ | ⟨-, h⟩
  · rw [h, Verdict.removed]
  · exact h.le

/-- R66's argument: what follows the sync byte can wait for more bytes only while it is shorter than the largest frame. -/
theorem removed_pos {cfg : Config} {buf : List Byte} (h : cfg.largestFrame ≤ buf.length) :
    0 < (decodeFrame cfg buf).removed := by
  rcases decodeFrame_removed cfg buf with ⟨hv, hlen⟩ | ⟨-, hr⟩
  · rw [hv, Verdict.removed]
    omega
  · omega

theorem decodeFrame_ne_needMoreData {cfg : Config} {buf : List Byte} (h : cfg.largestFrame ≤ buf.length)
    (h0 : syncIndex cfg buf = 0) (skip : Nat) : decodeFrame cfg buf ≠ .needMoreData skip := by
  rcases decodeFrame_removed cfg buf with ⟨-, hlen⟩ | ⟨hv, -⟩
  · omega
  · exact hv skip

theorem syncIndex_eq_length {cfg : Config} {buf : List Byte} (h : cfg.syncByte ∉ buf) :
    syncIndex cfg buf = buf.length := by
  simpa [syncIndex] using syncIndex_append h []

theorem Config.largestFrame_le_rxbufCap {cfg : Config} (h : cfg.wf = true) : cfg.largestFrame ≤ cfg.rxbufCap := by
  simp only [Config.wf, Bool.and_eq_true, decide_eq_true_eq] at h
  obtain ⟨⟨⟨-, hcap⟩, -⟩, -⟩ := h
  exact hcap

namespace Machine

/-! ### `RX_POLL` -/

/-- A poll fails, or moves as many bytes as fit from the head of what the transport holds to the tail of the buffer. -/
theorem rxPoll_next {s t : State} (h : exec .rxPoll s = .next t) :
    t = (s.sample.transportFault none).raise (.transport none)
      ∨ ∃ bs, bs <+: s.wire ∧ bs.length ≤ s.rxFree ∧
        t = (({ s.sample with wire := s.wire.drop bs.length } : State).rxAppend bs).ret (.count bs.length) := by
  simp only [exec, execRxPoll] at h
  obtain ⟨-, rfl⟩ := accept_next.1 h
  split
  · exact .inl rfl
  · rename_i most _
    have fits : (s.wire.take (min most s.rxFree)).length ≤ s.rxFree := by
      rw [List.length_take]
      omega
    exact .inr ⟨s.wire.take (min most s.rxFree), List.take_prefix _ _, fits, rfl⟩

/-- No byte is lost between the transport and the buffer (R66). -/
theorem rxPoll_keeps_bytes {s t : State} (h : exec .rxPoll s = .next t) :
    t.rxbuf ++ t.wire = s.rxbuf ++ s.wire := by
  rcases rxPoll_next h with rfl | ⟨bs, hbs, -, rfl⟩
  · rfl
  · have hwire := List.prefix_iff_eq_append.1 hbs
    simp [hwire]

theorem rxPoll_length_le {s t : State} (h : exec .rxPoll s = .next t) (hb : s.rxbuf.length ≤ s.cfg.rxbufCap) :
    t.rxbuf.length ≤ s.cfg.rxbufCap := by
  obtain ⟨hcfg, -⟩ := registerWriters _ _ _ h
  have := Memory.wf_iff.1 (exec_bufferWf h (Memory.wf_iff.2 hb))
  rwa [hcfg] at this

/-! ### `RX_STEP` -/

theorem rxStep_accepted {s : State} (hr : s.Ready) : ∃ t, exec .rxStep s = .next t := by
  show ∃ t, execRxStep s = .next t
  refine execRxStep_elim (P := fun a => ∃ t, a = .next t) ?more ?bad ?good
  case more => exact fun skip _ => ⟨_, accept_ready hr _⟩
  case bad => exact fun skip _ => ⟨_, accept_ready hr _⟩
  case good =>
    intro msgId content n _
    obtain ⟨k, hk⟩ := exec_shape (frameInstr_isLocal s.cfg msgId content).1
    have hr' : (s.rxDrop n).Ready := hr
    exact ⟨_, (hk _).trans (accept_ready hr' k)⟩

/-- An inbound message takes no byte of the buffer: its frame has already been consumed (R140). -/
theorem Ends.rxbuf_of_wire {i : Instr} {s t : State} (he : Ends i s t) (hw : i.space = .wire) : t.rxbuf = s.rxbuf := by
  rcases he.registers with hreg | ⟨rfl, -⟩
  · obtain ⟨-, -, -, -, hbuf, -⟩ := registers_eq hreg
    exact hbuf
  · cases hw

/-- `NEED_MORE_DATA` is `RX_STEP`'s own answer (R309). -/
theorem Ends.result_ne_needMoreData {i : Instr} {s t : State} (he : Ends i s t) : t.result ≠ some .needMoreData := by
  cases he with
  | said r other => simpa using other
  | noted n r _ _ other => simpa using other
  | transferFailed =>
    exact ackFailed_elim (P := fun t => t.result ≠ some .needMoreData)
      (fun _ => nofun) (fun _ _ _ _ => nofun) (fun _ _ _ _ => nofun) (fun _ _ _ => nofun)
  | _ => exact nofun

/-- What `RX_STEP` removes, and that its result is `NEED_MORE_DATA` on that verdict alone. -/
theorem rxStep_removed {s t : State} (h : exec .rxStep s = .next t) :
    t.rxbuf = s.rxbuf.drop (decodeFrame s.cfg s.rxbuf).removed
      ∧ (t.result = some .needMoreData → ∃ skip, decodeFrame s.cfg s.rxbuf = .needMoreData skip) := by
  obtain ⟨-, ⟨skip, hd, rfl⟩ | ⟨skip, pos, hd, rfl⟩ | ⟨msgId, content, n, hd, he⟩⟩ := rxStep_ends h
  · exact ⟨by rw [hd]; rfl, fun _ => ⟨skip, hd⟩⟩
  · exact ⟨by rw [hd]; rfl, nofun⟩
  · rw [hd]
    exact ⟨he.rxbuf_of_wire (frameInstr_isLocal _ _ _).2, fun hres => absurd hres he.result_ne_needMoreData⟩

/-- Settles O15: a poll adds at most the free space (`rxPoll_length_le`, `rxPoll_keeps_bytes`); a full buffer holds the
largest frame, so the verdict of `DECODE` on it removes a byte (`removed_pos`). -/
theorem fullBufferMakesProgress : Obligations.FullBufferMakesProgress := by
  refine ⟨fun s t hb h => ⟨rxPoll_length_le h hb, rxPoll_keeps_bytes h⟩, ?_⟩
  intro s hr hw full
  have large : s.cfg.largestFrame ≤ s.rxbuf.length := full ▸ Config.largestFrame_le_rxbufCap hw
  obtain ⟨t, h⟩ := rxStep_accepted hr
  obtain ⟨hbuf, hres⟩ := rxStep_removed h
  have hpos := removed_pos large
  have hskip := syncIndex_le_removed s.cfg s.rxbuf
  have hsync := syncIndex_le s.cfg s.rxbuf
  have hlen : t.rxbuf.length = s.rxbuf.length - (decodeFrame s.cfg s.rxbuf).removed := by rw [hbuf, List.length_drop]
  refine ⟨t, h, ?progress, ?noSync, ?skipped, ?atHead⟩
  case progress =>
    have : 0 < s.rxbuf.length := large.trans_lt' (by unfold Config.largestFrame; omega)
    omega
  case noSync =>
    intro hno
    rw [syncIndex_eq_length hno] at hskip
    rw [hbuf, List.drop_eq_nil_of_le hskip]
  case skipped => omega
  case atHead =>
    intro h0 hmore
    obtain ⟨skip, hv⟩ := hres hmore
    exact decodeFrame_ne_needMoreData large h0 skip hv

end Machine

end Sys2Proof

/-! ## Isolation: an operation and the slots of a channel that it does not address (R67, R171, R219) -/

namespace Sys2Proof.Machine

/-! ### The branches of the acceptance test and of `Emit` -/

theorem accept_of_closed {s : State} {k : State → State} (he : s.eng = .closed) :
    accept s k = .refused .engineClosed := by
  simp only [accept, he]

theorem accept_of_late {s : State} {k : State → State} (he : s.eng = .opened)
    (late : s.inp.now.toNat < s.tLast.toNat) : accept s k = .refused .timeBackwards := by
  simp only [accept, he, if_pos late]

section
variable {s : State} {target : Option Byte} {m : Message} {k : State → Frame → State} {f : Frame}

theorem emit_of_error {e : EncodeError} (hf : encodeMsg s.cfg m = .error e) :
    emit s target m k = s.raise (.encoding e) := by
  simp only [emit, hf]

theorem emit_of_accepted (hf : encodeMsg s.cfg m = .ok f) (hx : s.txAnswer = true) :
    emit s target m k = k (s.txWrite f) f := by
  simp only [emit, hf, if_pos hx]

theorem emit_of_failed (hf : encodeMsg s.cfg m = .ok f) (hx : s.txAnswer = false) :
    emit s target m k = ((s.txWrite f).transportFault target).raise (.transport target) := by
  simp [emit, hf, hx]

end

section
variable {c d : Byte} {v : Channel} {p : Pending} {s : State}

/-! ### Reads through an overwriting of channel `d`'s slots -/

@[simp] theorem overwrite_slot? (h : c ≠ d) : (Claims.overwrite d v p s).slot? c = s.slot? c := by
  simp [State.slot?, Claims.overwrite, List.getElem?_set_ne (toNat_ne h.symm)]

@[simp] theorem overwrite_inFlight? (h : c ≠ d) : (Claims.overwrite d v p s).inFlight? c = s.inFlight? c := by
  simp [State.inFlight?, State.pend?, Claims.overwrite, List.getElem?_set_ne (toNat_ne h.symm)]

@[simp] theorem overwrite_cfg : (Claims.overwrite d v p s).cfg = s.cfg := rfl

@[simp] theorem overwrite_inp : (Claims.overwrite d v p s).inp = s.inp := rfl

@[simp] theorem overwrite_maxRetries : (Claims.overwrite d v p s).maxRetries = s.maxRetries := rfl

@[simp] theorem overwrite_txAnswer : (Claims.overwrite d v p s).txAnswer = s.txAnswer := rfl

/-! ### Writes and an overwriting commute -/

@[simp] theorem overwrite_setSlot (h : c ≠ d) (w : Channel) :
    (Claims.overwrite d v p s).setSlot c w = Claims.overwrite d v p (s.setSlot c w) := by
  simp [State.setSlot, Claims.overwrite, List.set_comm v w (toNat_ne h.symm)]

@[simp] theorem overwrite_setPend (h : c ≠ d) (q : Pending) :
    (Claims.overwrite d v p s).setPend c q = Claims.overwrite d v p (s.setPend c q) := by
  simp [State.setPend, Claims.overwrite, List.set_comm p q (toNat_ne h.symm)]

@[simp] theorem overwrite_notify (n : Notification) :
    (Claims.overwrite d v p s).notify n = Claims.overwrite d v p (s.notify n) := rfl

@[simp] theorem overwrite_txWrite (f : Frame) :
    (Claims.overwrite d v p s).txWrite f = Claims.overwrite d v p (s.txWrite f) := rfl

@[simp] theorem overwrite_ret (x : Value) :
    (Claims.overwrite d v p s).ret x = Claims.overwrite d v p (s.ret x) := rfl

@[simp] theorem overwrite_raise (r : Result) :
    (Claims.overwrite d v p s).raise r = Claims.overwrite d v p (s.raise r) := rfl

@[simp] theorem overwrite_resolve (h : c ≠ d) (q : Pending) (o : AckOutcome) :
    (Claims.overwrite d v p s).resolve c q o = Claims.overwrite d v p (s.resolve c q o) := by
  simp [State.resolve, h]

theorem overwrite_setXfault {target : Option Byte} (h : target ≠ some d) :
    (Claims.overwrite d v p s).setXfault target = Claims.overwrite d v p (s.setXfault target) := by
  cases target with
  | none => rfl
  | some c =>
    have hc : c ≠ d := mt (congrArg some) h
    simp only [State.setXfault, overwrite_slot? hc]
    cases s.slot? c with
    | none => rfl
    | some w => exact overwrite_setSlot hc _

theorem overwrite_transportFault {target : Option Byte} (h : target ≠ some d) :
    (Claims.overwrite d v p s).transportFault target = Claims.overwrite d v p (s.transportFault target) := by
  simp [State.transportFault, overwrite_setXfault h]

theorem overwrite_cancelPending (h : c ≠ d) :
    (Claims.overwrite d v p s).cancelPending c = Claims.overwrite d v p (s.cancelPending c) := by
  simp only [State.cancelPending, overwrite_inFlight? h]
  cases s.inFlight? c with
  | none => rfl
  | some q => exact overwrite_resolve h q _

theorem overwrite_ackCompleted (h : c ≠ d) :
    (Claims.overwrite d v p s).ackCompleted c = Claims.overwrite d v p (s.ackCompleted c) := by
  simp only [State.ackCompleted, overwrite_inFlight? h]
  cases s.inFlight? c with
  | none => rfl
  | some q => exact overwrite_resolve h q _

theorem overwrite_retryOrFail (h : c ≠ d) (q : Pending) :
    (Claims.overwrite d v p s).retryOrFail c q
      = (Claims.overwrite d v p (s.retryOrFail c q).1, (s.retryOrFail c q).2) := by
  simp only [State.retryOrFail, overwrite_maxRetries, overwrite_txAnswer, overwrite_txWrite, overwrite_inp,
    overwrite_transportFault (mt Option.some.inj h), overwrite_resolve h, overwrite_setPend h]
  split
  · cases s.txAnswer <;> rfl
  · rfl

theorem overwrite_ackFailed (h : c ≠ d) :
    (Claims.overwrite d v p s).ackFailed c = Claims.overwrite d v p (s.ackFailed c) := by
  simp only [State.ackFailed, overwrite_inFlight? h, overwrite_retryOrFail h]
  cases s.inFlight? c with
  | none => rfl
  | some q =>
    dsimp only
    rcases s.retryOrFail c q with ⟨t, _ | _⟩ <;> rfl

/-! ### The steps that operations share -/

theorem overwrite_withSlot {k k' : Channel → State} (h : c ≠ d)
    (hk : ∀ w, k' w = Claims.overwrite d v p (k w)) :
    withSlot (Claims.overwrite d v p s) c k' = Claims.overwrite d v p (withSlot s c k) := by
  simp only [withSlot, overwrite_slot? h]
  cases s.slot? c with
  | none => rfl
  | some w => exact hk w

theorem overwrite_inState {w : Channel} {sources : List ChState} {k k' : State}
    (hk : k' = Claims.overwrite d v p k) :
    inState (Claims.overwrite d v p s) c w sources k' = Claims.overwrite d v p (inState s c w sources k) := by
  unfold inState
  split
  · exact hk
  · rfl

theorem overwrite_emit {target : Option Byte} {m : Message} {k : State → Frame → State} (h : target ≠ some d)
    (hk : ∀ t f, k (Claims.overwrite d v p t) f = Claims.overwrite d v p (k t f)) :
    emit (Claims.overwrite d v p s) target m k = Claims.overwrite d v p (emit s target m k) := by
  cases hf : encodeMsg s.cfg m with
  | error e =>
    rw [emit_of_error hf]
    exact emit_of_error hf
  | ok f =>
    cases hx : s.txAnswer with
    | true =>
      rw [emit_of_accepted hf hx]
      exact (emit_of_accepted (s := Claims.overwrite d v p s) hf hx).trans (hk (s.txWrite f) f)
    | false =>
      rw [emit_of_failed hf hx]
      refine (emit_of_failed (s := Claims.overwrite d v p s) hf hx).trans ?_
      rw [overwrite_txWrite, overwrite_transportFault h, overwrite_raise]

/-- A host operation that checks the state, writes a frame and goes on. -/
theorem overwrite_hostOp {sources : List ChState} {m : Channel → Message} {post : Channel → State → Frame → State}
    (h : c ≠ d) (hpost : ∀ w t f, post w (Claims.overwrite d v p t) f = Claims.overwrite d v p (post w t f)) :
    (withSlot (Claims.overwrite d v p s) c fun w =>
        inState (Claims.overwrite d v p s) c w sources <| emit (Claims.overwrite d v p s) (some c) (m w) (post w))
      = Claims.overwrite d v p
        (withSlot s c fun w => inState s c w sources <| emit s (some c) (m w) (post w)) :=
  overwrite_withSlot h fun w => overwrite_inState (overwrite_emit (mt Option.some.inj h) (hpost w))

theorem overwrite_submit {kind : SendKind} {m : Message} (h : c ≠ d) :
    submit (Claims.overwrite d v p s) c kind m = Claims.overwrite d v p (submit s c kind m) := by
  refine overwrite_withSlot h fun w => ?_
  rw [overwrite_inFlight? h]
  split
  · cases s.inFlight? c with
    | some q => rfl
    | none =>
      refine overwrite_emit (mt Option.some.inj h) fun t f => ?_
      exact congrArg (fun t : State => t.ret (.handle c)) (overwrite_setPend h _)
  · rfl

/-! ### The dispatcher -/

theorem overwrite_routeChannel {k : Kind} {content : List Byte} {handle handle' : Byte → Channel → Message → State}
    (h : ∀ c0 rest, content = c0 :: rest → chanOf s.cfg k c0 ≠ d)
    (hk : ∀ c w m, c ≠ d → handle' c w m = Claims.overwrite d v p (handle c w m)) :
    routeChannel (Claims.overwrite d v p s) k content handle'
      = Claims.overwrite d v p (routeChannel s k content handle) := by
  cases content with
  | nil => rfl
  | cons c0 rest =>
    have hc := h c0 rest rfl
    simp only [routeChannel, overwrite_cfg, overwrite_slot? hc]
    cases s.slot? (chanOf s.cfg k c0) with
    | none => rfl
    | some w =>
      dsimp only
      split
      · rfl
      · rfl
      · cases parseContent? s.cfg k (c0 :: rest) with
        | none => rfl
        | some m => exact hk _ w m hc

theorem overwrite_handleData {k : Kind} {w : Channel} {m : Message} (h : c ≠ d) :
    handleData (Claims.overwrite d v p s) k c w m = Claims.overwrite d v p (handleData s k c w m) := by
  unfold handleData
  cases dataFields m with
  | none => rfl
  | some fields =>
    dsimp only
    split
    · simp [h]
    · rfl
    · rfl

theorem overwrite_routeEvent {content : List Byte} {act : State → Byte → Channel → State}
    (h : ∀ c0 rest, content = c0 :: rest → chanOf s.cfg .channelEvent c0 ≠ d)
    (hact : ∀ t c w, c ≠ d → act (Claims.overwrite d v p t) c w = Claims.overwrite d v p (act t c w)) :
    routeEvent (Claims.overwrite d v p s) content act = Claims.overwrite d v p (routeEvent s content act) := by
  refine overwrite_routeChannel h fun c w m hc => ?_
  cases m with
  | channelEvent _ initId code => exact hact (s.notify (.channelEvent c initId code)) c w hc
  | _ => rfl

/-! ### Every instruction -/

/-- Row by row: a channel-bearing message addresses the channel of its first content byte (R105). -/
theorem addressed?_of_inbound {cfg : Config} {i : Instr} {k : Kind} {c0 : Byte} {rest : List Byte}
    (h : Claims.inbound? cfg i = some (k, c0 :: rest)) : Claims.addressed? cfg i = some (chanOf cfg k c0) := by
  cases i <;> cases h <;> rfl

/-- The channel of a channel-bearing message is one that its row addresses. -/
theorem chanOf_ne_of_addressed {cfg : Config} {i : Instr} {k : Kind} {content : List Byte}
    (ha : Claims.addressed? cfg i ≠ some d) (hi : Claims.inbound? cfg i = some (k, content)) :
    ∀ c0 rest, content = c0 :: rest → chanOf cfg k c0 ≠ d := by
  rintro c0 rest rfl hc
  exact ha (hc ▸ addressed?_of_inbound hi)

/-- The acceptance test reads the time and the engine's state, and no slot (R10, R352). -/
theorem overwrite_accept {k k' : State → State}
    (hk : k' (Claims.overwrite d v p s.sample) = Claims.overwrite d v p (k s.sample)) :
    accept (Claims.overwrite d v p s) k' = Claims.mapNext (Claims.overwrite d v p) (accept s k) := by
  cases he : s.eng with
  | closed => rw [accept_of_closed he, accept_of_closed (s := Claims.overwrite d v p s) he, Claims.mapNext]
  | opened =>
    by_cases late : s.inp.now.toNat < s.tLast.toNat
    · rw [accept_of_late he late, accept_of_late (s := Claims.overwrite d v p s) he late, Claims.mapNext]
    · have hr : s.Ready := ⟨he, Nat.le_of_not_lt late⟩
      rw [accept_ready hr, accept_ready (s := Claims.overwrite d v p s) hr, Claims.mapNext]
      exact congrArg Host.Outcome.next hk

/-- A local instruction that addresses another channel commutes with the overwriting. -/
theorem overwrite_exec {i : Instr} (hl : isLocal i = true) (ha : Claims.addressed? s.cfg i ≠ some d) :
    exec i (Claims.overwrite d v p s) = Claims.mapNext (Claims.overwrite d v p) (exec i s) := by
  cases i with
  | engineOpen | engineClose | tick | rxStep => cases hl
  | msgUnassignChannel | msgAssignChannel | msgSetPeriod | msgSetRfFreq | msgOpenChannel | msgCloseChannel
  | msgRequestMessage | msgSetChannelId =>
    simp only [exec, execMsgUnassignChannel, execMsgAssignChannel, execMsgSetPeriod, execMsgSetRfFreq,
      execMsgOpenChannel, execMsgCloseChannel, execMsgRequestMessage, execMsgSetChannelId]
    exact overwrite_accept (overwrite_routeChannel (chanOf_ne_of_addressed ha rfl) fun _ _ _ _ => rfl)
  | msgBroadcastData | msgAcknowledgedData | msgBurstData =>
    simp only [exec, execMsgBroadcastData, execMsgAcknowledgedData, execMsgBurstData]
    exact overwrite_accept
      (overwrite_routeChannel (chanOf_ne_of_addressed ha rfl) fun _ _ _ hc => overwrite_handleData hc)
  | msgCapabilities | msgSerialNumber | msgStartup | msgUnrecognizedId =>
    simp only [exec, execMsgCapabilities, execMsgSerialNumber, execMsgStartup, execMsgUnrecognizedId]
    exact overwrite_accept rfl
  | msgChannelEvent =>
    simp only [exec, execMsgChannelEvent]
    exact overwrite_accept (overwrite_routeEvent (chanOf_ne_of_addressed ha rfl) fun _ _ _ _ => rfl)
  | evtRxSearchTimeout =>
    simp only [exec, execEvtRxSearchTimeout]
    refine overwrite_accept (overwrite_routeEvent (chanOf_ne_of_addressed ha rfl) fun t c w hc => ?_)
    cases w.state with
    | searching => simp [hc, overwrite_cancelPending hc]
    | _ => rfl
  | evtRxFailGoToSearch =>
    simp only [exec, execEvtRxFailGoToSearch]
    refine overwrite_accept (overwrite_routeEvent (chanOf_ne_of_addressed ha rfl) fun t c w hc => ?_)
    cases w.state with
    | tracking => simp [hc]
    | _ => rfl
  | evtTransferTxCompleted =>
    simp only [exec, execEvtTransferTxCompleted]
    refine overwrite_accept (overwrite_routeEvent (chanOf_ne_of_addressed ha rfl) fun t c w hc => ?_)
    simp [overwrite_ackCompleted hc]
  | evtTransferTxFailed =>
    simp only [exec, execEvtTransferTxFailed]
    exact overwrite_accept
      (overwrite_routeEvent (chanOf_ne_of_addressed ha rfl) fun _ _ _ hc => overwrite_ackFailed hc)
  | assign | unassign | setChannelId | setRfFreq | setPeriod | openCh =>
    simp only [exec, execAssign, execUnassign, execSetChannelId, execSetRfFreq, execSetPeriod, execOpen]
    have hc := mt (congrArg some) ha
    exact overwrite_accept (overwrite_hostOp hc fun w t f => by simp [hc])
  | closeCh =>
    simp only [exec, execClose]
    have hc := mt (congrArg some) ha
    exact overwrite_accept (overwrite_hostOp hc fun w t f => by simp [hc, overwrite_cancelPending hc])
  | sendBroadcast =>
    simp only [exec, execSendBroadcast]
    exact overwrite_accept (overwrite_hostOp (mt (congrArg some) ha) fun _ _ _ => rfl)
  | setPairing =>
    simp only [exec, execSetPairing]
    have hc := mt (congrArg some) ha
    exact overwrite_accept (overwrite_withSlot hc fun w => overwrite_inState (by simp [hc]))
  | sendAck | sendBurst =>
    simp only [exec, execSendAck, execSendBurst]
    exact overwrite_accept (overwrite_submit (mt (congrArg some) ha))
  | request =>
    simp only [exec, execRequest]
    exact overwrite_accept (overwrite_emit nofun fun _ _ => rfl)
  | getChannel =>
    simp only [exec, execGetChannel]
    have hc := mt (congrArg some) ha
    refine overwrite_accept (overwrite_withSlot hc fun w => ?_)
    rw [overwrite_inFlight? hc]
    rfl
  | getEngine | decodeOp =>
    simp only [exec, execGetEngine, execDecode]
    exact overwrite_accept rfl
  | rxPoll =>
    simp only [exec, execRxPoll]
    refine overwrite_accept ?_
    dsimp only [overwrite_inp]
    cases s.sample.inp.read <;> rfl
  | encodeOp msgId content =>
    simp only [exec, execEncode]
    refine overwrite_accept ?_
    dsimp only [overwrite_cfg]
    cases encodeFrame s.sample.cfg msgId content <;> rfl

/-- `RX_STEP` reads its frame from the buffer, which holds no slot; the frame's own row does the rest (R140). -/
theorem overwrite_rxStep (ha : Claims.addressed? s.cfg (s.running .rxStep) ≠ some d) :
    exec .rxStep (Claims.overwrite d v p s) = Claims.mapNext (Claims.overwrite d v p) (exec .rxStep s) := by
  have hbuf : (Claims.overwrite d v p s).rxbuf = s.rxbuf := rfl
  show execRxStep _ = Claims.mapNext _ (execRxStep s)
  simp only [execRxStep, dispatch_eq, overwrite_cfg, hbuf]
  cases hd : decodeFrame s.cfg s.rxbuf with
  | needMoreData skip => exact overwrite_accept rfl
  | checksumError skip => exact overwrite_accept rfl
  | frame msgId content n =>
    rw [running_rxStep hd] at ha
    exact overwrite_exec (s := s.rxDrop n) (frameInstr_isLocal _ _ _).1 ha

end

theorem isLocal_of_servesOne {i : Instr} (hs : Claims.servesAll i = false) (hi : i ≠ .rxStep) : isLocal i = true := by
  cases i with
  | engineOpen | engineClose | tick => cases hs
  | rxStep => exact absurd rfl hi
  | _ => rfl

/-- Settles O42: an instruction that does not serve all channels is `RX_STEP` (`overwrite_rxStep`) or local
(`overwrite_exec`). -/
theorem channelsIsolated : Obligations.ChannelsIsolated := by
  intro i s d v p hs ha
  by_cases hi : i = .rxStep
  · subst hi
    exact overwrite_rxStep ha
  · rw [running_eq_self s hi] at ha
    exact overwrite_exec (isLocal_of_servesOne hs hi) ha

end Sys2Proof.Machine

/-! ## The frames of the wire and their rows of the opcode table (R90, R95, R104, R123) -/

namespace Sys2Proof

section
variable {cfg : Config} {i : Instr} {id : Byte} {content : List Byte}

/-! ### A frame alone on the wire -/

theorem decodeWire_buildFrame (h : cfg.contentFits content = true) :
    decodeWire cfg (buildFrame cfg id content) = .ok (frameInstr cfg id content) := by
  have fits : content.length + cfg.lenBias ≤ 255 := by simpa [Config.contentFits] using h
  simp [decodeWire, decodeFrame_buildFrame fits]

/-- What `DECODE` takes for a frame stands in the buffer, right after the skipped bytes, byte for byte. -/
theorem decodeFrame_frame {buf : List Byte} {n : Nat} (h : decodeFrame cfg buf = .frame id content n) :
    cfg.contentFits content = true ∧ n = syncIndex cfg buf + content.length + 4
      ∧ ∃ rest, buf.drop (syncIndex cfg buf) = buildFrame cfg id content ++ rest := by
  revert h
  refine decodeFrame_elim (P := fun v => v = .frame id content n → _) (fun _ => nofun) (fun _ _ _ _ => nofun)
    (fun _ _ _ _ _ => nofun) (fun _ _ _ _ _ _ _ _ => nofun) ?good
  case good =>
    intro len id content sum rest hd hlen hsum h
    cases h
    have hbyte : BitVec.ofNat 8 (content.length + cfg.lenBias) = len := by
      rw [hlen, BitVec.ofNat_toNat, BitVec.setWidth_eq]
    have fits : cfg.contentFits content = true := by
      have := len.isLt
      rw [Config.contentFits, decide_eq_true_eq]
      omega
    exact ⟨fits, rfl, rest, by simp [hd, buildFrame_eq, hbyte, hsum]⟩

theorem decodeWire_eq_ok {bs : List Byte} (h : decodeWire cfg bs = .ok i) :
    ∃ id content, i = frameInstr cfg id content ∧ bs = buildFrame cfg id content
      ∧ cfg.contentFits content = true := by
  cases hd : decodeFrame cfg bs with
  | needMoreData | checksumError => simp [decodeWire, hd] at h
  | frame id content n =>
    obtain ⟨fits, hn, rest, hbs⟩ := decodeFrame_frame hd
    obtain ⟨⟨alone, whole⟩, hi⟩ : (n = content.length + 4 ∧ n = bs.length)
        ∧ Except.ok (ε := DecodeError) (frameInstr cfg id content) = .ok i := by
      simp only [decodeWire, hd] at h
      split_ifs at h with whole
      exact ⟨whole, h⟩
    cases hi
    have atHead : syncIndex cfg bs = 0 := by omega
    rw [atHead, List.drop_zero] at hbs
    have nothingMore : rest = [] := by
      have := congrArg List.length hbs
      rw [List.length_append, buildFrame_length] at this
      exact List.length_eq_zero_iff.1 (by omega)
    exact ⟨id, content, rfl, by rw [hbs, nothingMore, List.append_nil], fits⟩

/-! ### The rows -/

/-- The FRAME row of a kind (R100). -/
def Kind.row : Kind → List Byte → Instr
  | .channelEvent => .msgChannelEvent
  | .unassignChannel => .msgUnassignChannel
  | .assignChannel => .msgAssignChannel
  | .setPeriod => .msgSetPeriod
  | .setRfFreq => .msgSetRfFreq
  | .openChannel => .msgOpenChannel
  | .closeChannel => .msgCloseChannel
  | .requestMessage => .msgRequestMessage
  | .broadcastData => .msgBroadcastData
  | .acknowledgedData => .msgAcknowledgedData
  | .burstData => .msgBurstData
  | .setChannelId => .msgSetChannelId
  | .capabilities => .msgCapabilities
  | .serialNumber => .msgSerialNumber
  | .startup => .msgStartup

/-- `FrameRow cfg i id content`: the frames with this id and content are those of row `i` (R104, R123). -/
inductive FrameRow (cfg : Config) : Instr → Byte → List Byte → Prop
  | unrecognized (id : Byte) (content : List Byte) (h : id ∉ cfg.ids) :
    FrameRow cfg (.msgUnrecognizedId id content) id content
  | message (k : Kind) (content : List Byte) (h : k = .channelEvent → cfg.isNamedEvent content = false) :
    FrameRow cfg (k.row content) (cfg.idOf k) content
  | searchTimeout (chan initId : Byte) : FrameRow cfg (.evtRxSearchTimeout chan initId)
    (cfg.idOf .channelEvent) [chan, initId, cfg.evRxSearchTimeout]
  | txCompleted (chan initId : Byte) : FrameRow cfg (.evtTransferTxCompleted chan initId)
    (cfg.idOf .channelEvent) [chan, initId, cfg.evTransferTxCompleted]
  | txFailed (chan initId : Byte) : FrameRow cfg (.evtTransferTxFailed chan initId)
    (cfg.idOf .channelEvent) [chan, initId, cfg.evTransferTxFailed]
  | goToSearch (chan initId : Byte) : FrameRow cfg (.evtRxFailGoToSearch chan initId)
    (cfg.idOf .channelEvent) [chan, initId, cfg.evRxFailGoToSearch]

/-- The row's own encoding is the frame. -/
theorem FrameRow.encode_eq (h : FrameRow cfg i id content) : encode cfg i = buildFrame cfg id content := by
  cases h with
  | message k => cases k <;> rfl
  | _ => rfl

theorem FrameRow.space_eq (h : FrameRow cfg i id content) : i.space = .wire := by
  cases h with
  | message k => cases k <;> rfl
  | _ => rfl

/-- A row whose frame has a content that fits is well formed. -/
theorem FrameRow.wellFormed (h : FrameRow cfg i id content) (fits : cfg.contentFits content = true) :
    i.wellFormed cfg = true := by
  cases h with
  | unrecognized id content h => simp [Instr.wellFormed, fits, h]
  | message k content h =>
    cases k with
    | channelEvent => simp [Kind.row, Instr.wellFormed, fits, h rfl]
    | _ => exact fits
  | _ => rfl

/-- Every well-formed instruction of the wire is the row of a frame whose content fits. -/
theorem exists_frameRow (hc : cfg.wf = true) (hs : i.space = .wire) (hi : i.wellFormed cfg = true) :
    ∃ id content, FrameRow cfg i id content ∧ cfg.contentFits content = true := by
  have fitsThree (a b c : Byte) : cfg.contentFits [a, b, c] = true := by
    obtain ⟨hbias, -⟩ := Config.wf_bounds hc
    simp only [Config.contentFits, List.length_cons, List.length_nil, decide_eq_true_eq]
    omega
  cases i with
  | msgChannelEvent content =>
    obtain ⟨fits, other⟩ : cfg.contentFits content = true ∧ cfg.isNamedEvent content = false := by
      simpa [Instr.wellFormed] using hi
    exact ⟨_, _, .message .channelEvent content fun _ => other, fits⟩
  | msgUnassignChannel content => exact ⟨_, _, .message .unassignChannel content nofun, hi⟩
  | msgAssignChannel content => exact ⟨_, _, .message .assignChannel content nofun, hi⟩
  | msgSetPeriod content => exact ⟨_, _, .message .setPeriod content nofun, hi⟩
  | msgSetRfFreq content => exact ⟨_, _, .message .setRfFreq content nofun, hi⟩
  | msgOpenChannel content => exact ⟨_, _, .message .openChannel content nofun, hi⟩
  | msgCloseChannel content => exact ⟨_, _, .message .closeChannel content nofun, hi⟩
  | msgRequestMessage content => exact ⟨_, _, .message .requestMessage content nofun, hi⟩
  | msgBroadcastData content => exact ⟨_, _, .message .broadcastData content nofun, hi⟩
  | msgAcknowledgedData content => exact ⟨_, _, .message .acknowledgedData content nofun, hi⟩
  | msgBurstData content => exact ⟨_, _, .message .burstData content nofun, hi⟩
  | msgSetChannelId content => exact ⟨_, _, .message .setChannelId content nofun, hi⟩
  | msgCapabilities content => exact ⟨_, _, .message .capabilities content nofun, hi⟩
  | msgSerialNumber content => exact ⟨_, _, .message .serialNumber content nofun, hi⟩
  | msgStartup content => exact ⟨_, _, .message .startup content nofun, hi⟩
  | msgUnrecognizedId id content =>
    obtain ⟨fits, unknown⟩ : cfg.contentFits content = true ∧ id ∉ cfg.ids := by
      simpa [Instr.wellFormed] using hi
    exact ⟨_, _, .unrecognized id content unknown, fits⟩
  | evtRxSearchTimeout chan initId => exact ⟨_, _, .searchTimeout chan initId, fitsThree _ _ _⟩
  | evtTransferTxCompleted chan initId => exact ⟨_, _, .txCompleted chan initId, fitsThree _ _ _⟩
  | evtTransferTxFailed chan initId => exact ⟨_, _, .txFailed chan initId, fitsThree _ _ _⟩
  | evtRxFailGoToSearch chan initId => exact ⟨_, _, .goToSearch chan initId, fitsThree _ _ _⟩
  | _ => cases hs

/-! ### The router and the rows agree -/

theorem eventInstr_three (cfg : Config) (chan initId code : Byte) :
    eventInstr cfg [chan, initId, code] =
      if code = cfg.evRxSearchTimeout then .evtRxSearchTimeout chan initId
      else if code = cfg.evTransferTxCompleted then .evtTransferTxCompleted chan initId
      else if code = cfg.evTransferTxFailed then .evtTransferTxFailed chan initId
      else if code = cfg.evRxFailGoToSearch then .evtRxFailGoToSearch chan initId
      else .msgChannelEvent [chan, initId, code] := rfl

theorem isNamedEvent_three (cfg : Config) (chan initId code : Byte) :
    cfg.isNamedEvent [chan, initId, code] = true ↔ code = cfg.evRxSearchTimeout ∨ code = cfg.evTransferTxCompleted
      ∨ code = cfg.evTransferTxFailed ∨ code = cfg.evRxFailGoToSearch := by
  simp [Config.isNamedEvent, Config.eventCodes]

theorem eventInstr_of_not_named (h : cfg.isNamedEvent content = false) :
    eventInstr cfg content = .msgChannelEvent content := by
  unfold eventInstr
  split
  · rw [← Bool.not_eq_true, isNamedEvent_three, not_or, not_or, not_or] at h
    obtain ⟨timeout, completed, failed, search⟩ := h
    rw [if_neg timeout, if_neg completed, if_neg failed, if_neg search]
  · rfl

/-- The row a channel event is routed to is its own. -/
theorem eventInstr_frameRow (cfg : Config) (content : List Byte) :
    FrameRow cfg (eventInstr cfg content) (cfg.idOf .channelEvent) content := by
  cases hn : cfg.isNamedEvent content with
  | false =>
    rw [eventInstr_of_not_named hn]
    exact .message .channelEvent content fun _ => hn
  | true =>
    match content, hn with
    | [chan, initId, code], hn =>
      rw [isNamedEvent_three] at hn
      rw [eventInstr_three]
      split_ifs with timeout completed failed search
      · exact timeout ▸ .searchTimeout chan initId
      · exact completed ▸ .txCompleted chan initId
      · exact failed ▸ .txFailed chan initId
      · exact search ▸ .goToSearch chan initId
      · simp [timeout, completed, failed, search] at hn

theorem frameInstr_of_unknown (content : List Byte) (h : cfg.kindOf? id = none) :
    frameInstr cfg id content = .msgUnrecognizedId id content := by
  unfold frameInstr
  rw [h]

theorem frameInstr_of_kindOf? {k : Kind} (content : List Byte) (h : cfg.kindOf? id = some k) :
    frameInstr cfg id content = if k = .channelEvent then eventInstr cfg content else k.row content := by
  unfold frameInstr
  rw [h]
  cases k <;> rfl

/-- The row a frame is routed to is its own. -/
theorem frameInstr_frameRow (cfg : Config) (id : Byte) (content : List Byte) :
    FrameRow cfg (frameInstr cfg id content) id content := by
  cases hk : cfg.kindOf? id with
  | none =>
    rw [frameInstr_of_unknown content hk]
    exact .unrecognized id content (Config.kindOf?_eq_none.1 hk)
  | some k =>
    rw [frameInstr_of_kindOf? content hk, ← Config.kindOf?_idOf_of_some hk]
    split_ifs with event
    · exact event ▸ eventInstr_frameRow cfg content
    · exact .message k content fun e => absurd e event

/-- A frame is routed to the row it belongs to: the ids, and the four event codes, are distinct (R6). -/
theorem FrameRow.frameInstr_eq (hc : cfg.wf = true) (h : FrameRow cfg i id content) :
    frameInstr cfg id content = i := by
  have routed (k : Kind) (content : List Byte) := frameInstr_of_kindOf? content
    ((Config.kindOf?_eq_some (Config.ids_nodup hc)).2 (rfl : cfg.idOf k = cfg.idOf k))
  have codes := Config.eventCodes_nodup hc
  simp only [Config.eventCodes, List.nodup_cons, List.mem_cons, List.not_mem_nil, or_false, not_or] at codes
  obtain ⟨⟨timeoutCompleted, timeoutFailed, timeoutSearch⟩, ⟨completedFailed, completedSearch⟩, failedSearch, -⟩ :=
    codes
  cases h with
  | unrecognized _ _ unknown => exact frameInstr_of_unknown content (Config.kindOf?_eq_none.2 unknown)
  | message k _ other =>
    rw [routed]
    split_ifs with event
    · rw [eventInstr_of_not_named (other event), event]
      rfl
    · rfl
  | searchTimeout => rw [routed, if_pos rfl, eventInstr_three, if_pos rfl]
  | txCompleted => simp [routed, eventInstr_three, Ne.symm timeoutCompleted]
  | txFailed => simp [routed, eventInstr_three, Ne.symm timeoutFailed, Ne.symm completedFailed]
  | goToSearch =>
    simp [routed, eventInstr_three, Ne.symm timeoutSearch, Ne.symm completedSearch, Ne.symm failedSearch]

/-- On the wire a well-formed instruction is read back from its frame. -/
theorem decodeWire_encode (hc : cfg.wf = true) (hs : i.space = .wire) (hi : i.wellFormed cfg = true) :
    decodeWire cfg (encode cfg i) = .ok i := by
  obtain ⟨id, content, row, fits⟩ := exists_frameRow hc hs hi
  rw [row.encode_eq, decodeWire_buildFrame fits, row.frameInstr_eq hc]

end

/-- Settles O8: bytes that decode are a built frame (`decodeWire_eq_ok`), and its row is the one it is routed to. -/
theorem wireDecodingUnambiguous : Obligations.WireDecodingUnambiguous := by
  intro cfg bs i _ h
  obtain ⟨id, content, rfl, rfl, fits⟩ := decodeWire_eq_ok h
  have row := frameInstr_frameRow cfg id content
  exact ⟨row.encode_eq, row.wellFormed fits, row.space_eq⟩

end Sys2Proof

/-! ## The words of the ports (R120, assumption 4) -/

namespace Sys2Proof

/-! ### Operands of more than one byte, and of less -/

theorem ofNat_leValue_leBytes {w : Nat} (k : Nat) (v : BitVec w) (h : 2 ^ w ≤ 256 ^ k) :
    BitVec.ofNat w (leValue (leBytes k v.toNat)) = v := by
  rw [leValue_leBytes k _ (v.isLt.trans_le h), BitVec.ofNat_toNat, BitVec.setWidth_eq]

theorem leBytes_two (n : Nat) : leBytes 2 n = [BitVec.ofNat 8 n, BitVec.ofNat 8 (n / 256)] := rfl

/-- The bytes of the policy operands that the host passes (R23). -/
def policyBytes (ackTimeout : Option Time) (maxRetries : Option Byte) : List Byte :=
  (ackTimeout.map fun t => leBytes 8 t.toNat).getD [] ++ maxRetries.toList

theorem encode_engineOpen (cfg : Config) (n : BitVec 9) (ackTimeout : Option Time) (maxRetries : Option Byte) :
    encode cfg (.engineOpen n ackTimeout maxRetries)
      = 0x00#8 :: (leBytes 2 n.toNat ++ policyBytes ackTimeout maxRetries) := rfl

theorem policyOperands?_policyBytes (ackTimeout : Option Time) (maxRetries : Option Byte) :
    policyOperands? (policyBytes ackTimeout maxRetries) = some (ackTimeout, maxRetries) := by
  have time (t : Time) := ofNat_leValue_leBytes 8 t (by decide)
  cases ackTimeout with
  | none => cases maxRetries <;> rfl
  | some t =>
    cases maxRetries with
    | none => exact congrArg (fun u => some (some u, none)) (time t)
    | some r => exact congrArg (fun u => some (some u, some r)) (time t)

theorem operandsEngineOpen_bytes (n : BitVec 9) (ackTimeout : Option Time) (maxRetries : Option Byte) :
    operandsEngineOpen (leBytes 2 n.toNat ++ policyBytes ackTimeout maxRetries)
      = .ok (.engineOpen n ackTimeout maxRetries) := by
  have hn : BitVec.ofNat 9 (leValue (leBytes 2 n.toNat)) = n := ofNat_leValue_leBytes 2 n (by decide)
  have fits : leValue (leBytes 2 n.toNat) < 2 ^ 9 := by
    rw [leValue_leBytes 2 _ (n.isLt.trans (by decide))]
    exact n.isLt
  simp only [leBytes_two, List.cons_append, List.nil_append] at hn fits ⊢
  simp only [operandsEngineOpen, policyOperands?_policyBytes, hn, if_pos fits]

theorem operandsSetChannelId_bytes (ch : Byte) (devNumber : Half) (devType : BitVec 7) (transType : Byte) :
    operandsSetChannelId (ch :: (leBytes 2 devNumber.toNat ++ [devType.setWidth 8, transType]))
      = .ok (.setChannelId ch devNumber devType transType) := by
  have hn : BitVec.ofNat 16 (leValue (leBytes 2 devNumber.toNat)) = devNumber :=
    ofNat_leValue_leBytes 2 devNumber (by decide)
  have fits : (devType.setWidth 8).toNat < 2 ^ 7 := by simpa using Nat.lt_of_le_of_lt (Nat.mod_le _ _) devType.isLt
  simp only [leBytes_two, List.cons_append, List.nil_append] at hn ⊢
  rw [operandsSetChannelId, if_pos fits, hn, BitVec.setWidth_setWidth_of_le _ (by decide), BitVec.setWidth_eq]

theorem operandsSetPeriod_bytes (ch : Byte) (period : Half) :
    operandsSetPeriod (ch :: leBytes 2 period.toNat) = .ok (.setPeriod ch period) :=
  congrArg (fun p => Except.ok (Instr.setPeriod ch p)) (ofNat_leValue_leBytes 2 period (by decide))

theorem operandsSetPairing_bytes (ch : Byte) (bit : Bool) :
    operandsSetPairing [ch, if bit then 1#8 else 0#8] = .ok (.setPairing ch bit) := by
  cases bit <;> rfl

theorem operandsSendBurst_bytes (ch : Byte) (seq : BitVec 3) (data : Payload) :
    operandsSendBurst (ch :: seq.setWidth 8 :: data.bytes) = .ok (.sendBurst ch seq data) := by
  have fits : ¬ 2 ^ 3 ≤ (seq.setWidth 8).toNat := by
    simpa using Nat.lt_of_le_of_lt (Nat.mod_le _ _) seq.isLt
  rw [operandsSendBurst, if_neg fits, payloadOf?_bytes, BitVec.setWidth_setWidth_of_le _ (by decide),
    BitVec.setWidth_eq]

/-! ### Every operation -/

/-- On its port an operation is read back from its word, whatever its operands. -/
theorem decodePort_encode (cfg : Config) {i : Instr} {p : Port} (hs : i.space = .port p) :
    decodePort p (encode cfg i) = .ok i := by
  cases i with
  | engineOpen n ackTimeout maxRetries =>
    cases hs
    rw [encode_engineOpen]
    exact operandsEngineOpen_bytes n ackTimeout maxRetries
  | setChannelId ch devNumber devType transType =>
    cases hs
    exact operandsSetChannelId_bytes ch devNumber devType transType
  | setPeriod ch period =>
    cases hs
    exact operandsSetPeriod_bytes ch period
  | setPairing ch bit =>
    cases hs
    exact operandsSetPairing_bytes ch bit
  | sendBurst ch seq data =>
    cases hs
    exact operandsSendBurst_bytes ch seq data
  | engineClose | assign | unassign | setRfFreq | openCh | closeCh | sendBroadcast | sendAck | request | getChannel
  | getEngine | rxPoll | rxStep | tick | encodeOp | decodeOp =>
    -- the operands are whole bytes, and each stands for itself
    cases hs
    rfl
  | _ => cases hs

/-- Settles O7: on the wire by the row of the frame (`decodeWire_encode`), on a port operand by operand
(`decodePort_encode`). -/
theorem decodeEncodeAgree : Obligations.DecodeEncodeAgree := by
  intro cfg i hc hi
  cases hs : i.space with
  | wire => exact decodeWire_encode hc hs hi
  | port p => exact decodePort_encode cfg hs

/-- Settles O9: the six words, decoded. -/
theorem specWordsDecode : Obligations.SpecWordsDecode := by
  refine ⟨?assignChannel, ?transferFailed, ?startup, ?setRfFreq, ?tick, ?encode⟩
  all_goals rfl

end Sys2Proof

/-! ## The fields of a content: each is read back, and each byte is written again (R105, R106, R107) -/

namespace Sys2Proof.Machine

/-! ### 16-bit fields (R107) -/

theorem half_lo8_hi8 (v : Half) : half (lo8 v) (hi8 v) = v := by
  apply BitVec.eq_of_toNat_eq
  simp only [half, lo8, hi8, BitVec.toNat_ofNat]
  omega

theorem half_toNat (c1 c2 : Byte) : (half c1 c2).toNat = c1.toNat + 256 * c2.toNat := by
  rw [half, BitVec.toNat_ofNat]
  omega

theorem lo8_half (c1 c2 : Byte) : lo8 (half c1 c2) = c1 := by
  apply BitVec.eq_of_toNat_eq
  rw [lo8, half_toNat, BitVec.toNat_ofNat]
  omega

theorem hi8_half (c1 c2 : Byte) : hi8 (half c1 c2) = c2 := by
  apply BitVec.eq_of_toNat_eq
  rw [hi8, half_toNat, BitVec.toNat_ofNat]
  omega

/-! ### The device-type byte (R106) -/

/-- A flag shifted to bit `n`. -/
theorem getLsbD_flag_shiftLeft {n : Nat} (hn : n ≤ 7) (flag : Bool) (k : Nat) :
    ((if flag then 1#8 else 0#8) <<< n).getLsbD k = (flag && decide (k = n)) := by
  cases flag with
  | false => simp
  | true =>
    simp only [if_true, BitVec.getLsbD_shiftLeft, BitVec.getLsbD_one, Bool.true_and]
    rw [Bool.eq_iff_iff]
    simp
    omega

section
variable {cfg : Config}

/-- Bit by bit: the flag at `PAIRING_BIT_POS`, the sent device type everywhere else. -/
theorem getLsbD_typeByte (hp : cfg.pairingBitPos ≤ 7) (pairing : Bool) (devType : Byte) (k : Nat) :
    (typeByte cfg pairing devType).getLsbD k =
      if k = cfg.pairingBitPos then pairing else (sentDevType cfg pairing devType).getLsbD k := by
  have clear : (sentDevType cfg pairing devType).getLsbD cfg.pairingBitPos = false := by
    simpa [Config.devTypeFits] using sentDevType_fits cfg pairing devType
  rw [typeByte, BitVec.getLsbD_or, getLsbD_flag_shiftLeft hp]
  by_cases hk : k = cfg.pairingBitPos
  · simp [hk, clear]
  · simp [hk]

/-- Bit by bit: every bit of the byte but the flag. -/
theorem getLsbD_devTypeOf (hp : cfg.pairingBitPos ≤ 7) (c3 : Byte) (k : Nat) :
    (devTypeOf cfg c3).getLsbD k = (decide (k ≠ cfg.pairingBitPos) && c3.getLsbD k) := by
  have mask : (1#8 <<< cfg.pairingBitPos).getLsbD k = decide (k = cfg.pairingBitPos) :=
    getLsbD_flag_shiftLeft hp true k
  by_cases hk : k < 8
  · rw [devTypeOf, BitVec.getLsbD_and, BitVec.getLsbD_not, mask]
    simp [hk, Bool.and_comm]
  · simp [BitVec.getLsbD_of_ge _ k (Nat.le_of_not_lt hk)]

theorem devTypeFits_devTypeOf (hp : cfg.pairingBitPos ≤ 7) (c3 : Byte) :
    cfg.devTypeFits (devTypeOf cfg c3) = true := by
  simp [Config.devTypeFits, getLsbD_devTypeOf hp]

theorem pairingOf_typeByte (hp : cfg.pairingBitPos ≤ 7) (pairing : Bool) (devType : Byte) :
    pairingOf cfg (typeByte cfg pairing devType) = pairing := by
  rw [pairingOf, getLsbD_typeByte hp, if_pos rfl]

theorem devTypeOf_typeByte (hp : cfg.pairingBitPos ≤ 7) (pairing : Bool) {devType : Byte}
    (fits : cfg.devTypeFits devType = true) : devTypeOf cfg (typeByte cfg pairing devType) = devType := by
  have clear : devType.getLsbD cfg.pairingBitPos = false := by simpa [Config.devTypeFits] using fits
  refine BitVec.eq_of_getLsbD_eq fun k _ => ?_
  rw [getLsbD_devTypeOf hp, getLsbD_typeByte hp, sentDevType_of_fits pairing fits]
  by_cases hk : k = cfg.pairingBitPos
  · simp [hk, clear]
  · simp [hk]

theorem typeByte_pairingOf_devTypeOf (hp : cfg.pairingBitPos ≤ 7) (c3 : Byte) :
    typeByte cfg (pairingOf cfg c3) (devTypeOf cfg c3) = c3 := by
  refine BitVec.eq_of_getLsbD_eq fun k _ => ?_
  rw [getLsbD_typeByte hp, sentDevType_of_fits _ (devTypeFits_devTypeOf hp c3), getLsbD_devTypeOf hp]
  by_cases hk : k = cfg.pairingBitPos
  · simp [hk, pairingOf]
  · simp [hk]

/-! ### The first byte of a burst (R105) -/

theorem burstSeq_burstByte {seq chan : Byte} (hb : cfg.burstChBits ≤ 8) (hc : chan.toNat < 2 ^ cfg.burstChBits)
    (fits : cfg.seqFits seq = true) : burstSeq cfg (burstByte cfg seq chan) = seq := by
  have hs : seq.toNat < 2 ^ (8 - cfg.burstChBits) := by simpa [Config.seqFits] using fits
  have room : seq.toNat * 2 ^ cfg.burstChBits < 2 ^ 8 :=
    calc seq.toNat * 2 ^ cfg.burstChBits
      _ < 2 ^ (8 - cfg.burstChBits) * 2 ^ cfg.burstChBits := Nat.mul_lt_mul_of_pos_right hs (Nat.two_pow_pos _)
      _ = 2 ^ 8 := by rw [← Nat.pow_add, Nat.sub_add_cancel hb]
  apply BitVec.eq_of_toNat_eq
  rw [burstSeq, burstByte, sentSeq_of_fits chan fits, BitVec.toNat_ushiftRight, BitVec.toNat_or,
    BitVec.toNat_shiftLeft, Nat.shiftLeft_eq, Nat.mod_eq_of_lt room, Nat.shiftRight_or_distrib,
    ← Nat.shiftLeft_eq, Nat.shiftLeft_shiftRight, Nat.shiftRight_eq_div_pow chan.toNat, Nat.div_eq_of_lt hc,
    Nat.or_zero]

theorem seqFits_burstSeq (hb : cfg.burstChBits ≤ 8) (c0 : Byte) : cfg.seqFits (burstSeq cfg c0) = true := by
  rw [Config.seqFits, decide_eq_true_eq, burstSeq, BitVec.toNat_ushiftRight, Nat.shiftRight_eq_div_pow]
  refine Nat.div_lt_of_lt_mul ?_
  rw [← Nat.pow_add, Nat.add_sub_cancel' hb]
  exact c0.isLt

theorem burstByte_burstSeq_burstChan (hb : cfg.burstChBits ≤ 8) (c0 : Byte) :
    burstByte cfg (burstSeq cfg c0) (burstChan cfg c0) = c0 := by
  have low : c0.toNat % 2 ^ cfg.burstChBits < 2 ^ 8 := (Nat.mod_le _ _).trans_lt c0.isLt
  have high : c0.toNat / 2 ^ cfg.burstChBits * 2 ^ cfg.burstChBits < 2 ^ 8 :=
    (Nat.div_mul_le_self _ _).trans_lt c0.isLt
  apply BitVec.eq_of_toNat_eq
  rw [burstByte, sentSeq_of_fits _ (seqFits_burstSeq hb c0), burstSeq, burstChan, BitVec.toNat_or,
    BitVec.toNat_shiftLeft, BitVec.toNat_ushiftRight, BitVec.toNat_ofNat, Nat.shiftRight_eq_div_pow, Nat.shiftLeft_eq,
    Nat.mod_eq_of_lt low, Nat.mod_eq_of_lt high, Nat.mul_comm,
    ← Nat.two_pow_add_eq_or_of_lt (Nat.mod_lt _ (Nat.two_pow_pos _)), Nat.div_add_mod]

end

/-! ## `Parse` and `Content` (R110, R111) -/

section
variable {cfg : Config} {k : Kind} {content : List Byte}

/-- The content of a well-typed message holds that message. -/
theorem parseContent?_contentOf {m : Message} (hc : cfg.wf = true) (hm : m.wellTyped cfg = true) :
    parseContent? cfg m.kind (contentOf cfg m) = some m := by
  obtain ⟨-, -, -, hp, hb⟩ := Config.wf_bounds hc
  cases m with
  | setChannelId chan devNumber devType pairing transType =>
    simp only [Message.kind, contentOf, parseContent?, half_lo8_hi8, pairingOf_typeByte hp,
      devTypeOf_typeByte hp pairing hm]
  | setPeriod chan period => simp only [Message.kind, contentOf, parseContent?, half_lo8_hi8]
  | burstData chan seq data =>
    obtain ⟨hchan, hseq⟩ : chan.toNat < 2 ^ cfg.burstChBits ∧ cfg.seqFits seq = true := by
      simpa [Message.wellTyped] using hm
    simp only [Message.kind, contentOf, parseContent?, payloadOf?_bytes, Option.map_some,
      burstChan_burstByte seq hb hchan, burstSeq_burstByte hb hchan hseq]
  | _ => rfl

/-- A message that a content holds is of the kind asked for, and has that content. -/
theorem parseContent?_eq_some {m : Message} (hc : cfg.wf = true) (h : parseContent? cfg k content = some m) :
    m.kind = k ∧ contentOf cfg m = content := by
  obtain ⟨-, -, -, hp, hb⟩ := Config.wf_bounds hc
  cases k with
  | channelEvent | assignChannel =>
    match content, h with
    | [_, _, _], h => cases h; exact ⟨rfl, rfl⟩
  | unassignChannel | openChannel | closeChannel =>
    match content, h with
    | [_], h => cases h; exact ⟨rfl, rfl⟩
  | setRfFreq | requestMessage =>
    match content, h with
    | [_, _], h => cases h; exact ⟨rfl, rfl⟩
  | setPeriod =>
    match content, h with
    | [_, _, _], h => cases h; exact ⟨rfl, by simp only [contentOf, lo8_half, hi8_half]⟩
  | setChannelId =>
    match content, h with
    | [_, _, _, _, _], h =>
      cases h
      exact ⟨rfl, by simp only [contentOf, lo8_half, hi8_half, typeByte_pairingOf_devTypeOf hp]⟩
  | broadcastData | acknowledgedData =>
    match content, h with
    | _ :: data, h =>
      obtain ⟨p, hdata, rfl⟩ := Option.map_eq_some_iff.1 h
      exact ⟨rfl, by rw [payloadOf?_eq_some.1 hdata]; rfl⟩
  | burstData =>
    match content, h with
    | _ :: data, h =>
      obtain ⟨p, hdata, rfl⟩ := Option.map_eq_some_iff.1 h
      exact ⟨rfl, by rw [payloadOf?_eq_some.1 hdata, contentOf, burstByte_burstSeq_burstChan hb]⟩
  | capabilities | serialNumber | startup => cases h; exact ⟨rfl, rfl⟩

/-- A content of the kind's length holds a message. -/
theorem parseContent?_isSome (h : ∀ n, k.contentLength = some n → content.length = n) :
    (parseContent? cfg k content).isSome = true := by
  cases k with
  | channelEvent | assignChannel | setPeriod =>
    match content, h 3 rfl with
    | [_, _, _], _ => rfl
  | unassignChannel | openChannel | closeChannel =>
    match content, h 1 rfl with
    | [_], _ => rfl
  | setRfFreq | requestMessage =>
    match content, h 2 rfl with
    | [_, _], _ => rfl
  | broadcastData | acknowledgedData | burstData =>
    match content, h 9 rfl with
    | [_, _, _, _, _, _, _, _, _], _ => rfl
  | setChannelId =>
    match content, h 5 rfl with
    | [_, _, _, _, _], _ => rfl
  | capabilities | serialNumber | startup => rfl

/-- The length of a message's content is its kind's. -/
theorem contentOf_length {m : Message} {n : Nat} (h : m.kind.contentLength = some n) :
    (contentOf cfg m).length = n := by
  cases m <;> cases h <;> rfl

theorem parseContent?_eq_none (hc : cfg.wf = true) :
    parseContent? cfg k content = none ↔ ∃ n, k.contentLength = some n ∧ content.length ≠ n := by
  constructor
  · intro h
    by_contra! hlen
    have := parseContent?_isSome (cfg := cfg) hlen
    rw [h] at this
    cases this
  · rintro ⟨n, hn, hlen⟩
    cases h : parseContent? cfg k content with
    | none => rfl
    | some m =>
      obtain ⟨rfl, rfl⟩ := parseContent?_eq_some hc h
      exact absurd (contentOf_length hn) hlen

end

section
variable {cfg : Config} {id : Byte} {content : List Byte}

theorem parse_eq_unknownId : parse cfg id content = .unknownId ↔ id ∉ cfg.ids := by
  rw [← Config.kindOf?_eq_none, parse]
  cases cfg.kindOf? id with
  | none => simp
  | some k => cases h : parseContent? cfg k content <;> simp [h]

theorem parse_eq_msg {m : Message} : parse cfg id content = .msg m ↔
    ∃ k, cfg.kindOf? id = some k ∧ parseContent? cfg k content = some m := by
  rw [parse]
  cases cfg.kindOf? id with
  | none => simp
  | some k => cases h : parseContent? cfg k content <;> simp [h]

theorem parse_eq_malformed : parse cfg id content = .malformed ↔
    ∃ k, cfg.kindOf? id = some k ∧ parseContent? cfg k content = none := by
  rw [parse]
  cases cfg.kindOf? id with
  | none => simp
  | some k => cases h : parseContent? cfg k content <;> simp [h]

theorem parse_messageContent {m : Message} (hc : cfg.wf = true) (hm : m.wellTyped cfg = true) :
    parse cfg (messageContent cfg m).1 (messageContent cfg m).2 = .msg m :=
  parse_eq_msg.2 ⟨m.kind, (Config.kindOf?_eq_some (Config.ids_nodup hc)).2 rfl, parseContent?_contentOf hc hm⟩

end

/-- Settles O5: content by content (`parseContent?_contentOf`, `parseContent?_eq_some`, `parseContent?_eq_none`), the id
table being injective. -/
theorem parseInvertsContent : Obligations.ParseInvertsContent := by
  intro cfg hc
  refine ⟨fun m => parse_messageContent hc, ?parsed, fun _ _ => parse_eq_unknownId, ?malformed⟩
  case parsed =>
    intro id content m h
    obtain ⟨k, hk, hm⟩ := parse_eq_msg.1 h
    obtain ⟨rfl, rfl⟩ := parseContent?_eq_some hc hm
    rw [messageContent, Config.kindOf?_idOf_of_some hk]
  case malformed =>
    intro id content
    simp only [parse_eq_malformed, parseContent?_eq_none hc, Config.kindOf?_eq_some (Config.ids_nodup hc),
      exists_and_left]

/-- Settles O6: the messages are what `Parse` makes of their contents (`parse_messageContent`). -/
theorem contentInjective : Obligations.ContentInjective := by
  intro cfg hc
  refine ⟨fun _ => rfl, fun m m' hm hm' h => ?_⟩
  have same : Parsed.msg m = .msg m' := by
    rw [← parse_messageContent hc hm, h, parse_messageContent hc hm']
  exact Parsed.msg.inj same

end Sys2Proof.Machine

/-! ## A channel event that reaches its channel, and the poll of `RX` (R113, R122, R200, R217, R284) -/

namespace Sys2Proof.Machine

/-- A message for a channel in use, with a content of its kind, reaches its rule (R200, R210). -/
theorem routeChannel_of_parses {s : State} {k : Kind} {c0 : Byte} {rest : List Byte} {v : Channel} {m : Message}
    (handle : Byte → Channel → Message → State) (hv : s.slot? (chanOf s.cfg k c0) = some v)
    (assigned : v.state ≠ .unassigned) (notClosed : v.state ≠ .closed)
    (hm : parseContent? s.cfg k (c0 :: rest) = some m) :
    routeChannel s k (c0 :: rest) handle = handle (chanOf s.cfg k c0) v m := by
  simp only [routeChannel, hv, hm]

theorem routeEvent_of_slot {s : State} {c : Byte} {v : Channel} (initId code : Byte)
    (act : State → Byte → Channel → State) (hv : s.slot? c = some v) (assigned : v.state ≠ .unassigned)
    (notClosed : v.state ≠ .closed) :
    routeEvent s [c, initId, code] act = act (s.notify (.channelEvent c initId code)) c v := by
  have hm : parseContent? s.cfg .channelEvent [c, initId, code] = some (.channelEvent c initId code) := rfl
  rw [routeEvent, routeChannel_of_parses _ hv assigned notClosed hm]
  rfl

/-- Settles O30: the event reaches its row (`routeEvent_of_slot`), which only forwards it. That the code is none of
the four is what makes the event one of this row (`eventInstr_of_not_named`); the row itself reads no code. -/
theorem otherEventsForwarded : Obligations.OtherEventsForwarded := by
  intro s c initId code v hr hv assigned notClosed _
  have hslot : s.sample.slot? c = some v := slot?_eq_some.2 hv
  rw [exec, execMsgChannelEvent, accept_ready hr, routeEvent_of_slot _ _ _ hslot assigned notClosed]
  rfl

/-- A poll that the transport answers: the bytes it returns leave the transport for the tail of the buffer (R284). -/
theorem rxPoll_of_read {s : State} {most : Nat} {bs : List Byte} (hr : s.Ready) (hread : s.inp.read = .upTo most)
    (hbs : s.wire.take (min most s.rxFree) = bs) : exec .rxPoll s = .next
      ((({ s.sample with wire := s.wire.drop bs.length } : State).rxAppend bs).ret (.count bs.length)) := by
  subst hbs
  rw [exec, execRxPoll, accept_ready hr, State.sample_inp, hread]
  rfl

/-- The poll of `RX`: exactly the bytes of its line are moved, when there is room for them. -/
theorem rxPoll_feed {s : State} {bytes : List Byte} (hr : s.Ready) (room : bytes.length ≤ s.rxFree) :
    exec .rxPoll (s.feed bytes) = .next
      { Claims.answered s (.ok (.count bytes.length)) with
        inp := { s.inp with read := .upTo bytes.length }
        rxbuf := s.rxbuf ++ bytes } := by
  have fed : (s.feed bytes).Ready := hr
  have taken : (bytes ++ s.wire).take (min bytes.length s.rxFree) = bytes := by
    rw [Nat.min_eq_left room, List.take_left]
  have left : (bytes ++ s.wire).drop bytes.length = s.wire := List.drop_left
  rw [rxPoll_of_read fed rfl taken, State.feed_wire, left]
  rfl

/-- Settles O47: the poll moves the bytes of the line (`rxPoll_feed`), and the buffer is drained from there. -/
theorem rxProgramPollsItsBytes : Obligations.RxProgramPollsItsBytes := by
  intro s bytes hr room
  rw [rxProgram, rxPoll_feed hr room, andThen]

end Sys2Proof.Machine

/-! ## The fold of bytes and a flipped bit (R132) -/

namespace Sys2Proof

theorem xorFold_append (a b : List Byte) : xorFold (a ++ b) = xorFold a ^^^ xorFold b := by
  induction a with
  | nil => simp
  | cons x a ih => rw [List.cons_append, xorFold_cons, xorFold_cons, ih, BitVec.xor_assoc]

/-- The checksum of a frame cancels the bytes it sums up. -/
theorem xorFold_buildFrame (cfg : Config) (id : Byte) (content : List Byte) :
    xorFold (buildFrame cfg id content) = 0#8 := by
  rw [buildFrame, xorFold_concat, BitVec.xor_self]

theorem xor_bit_ne (x : Byte) {b : Nat} (hb : b < 8) : x ^^^ (1#8 <<< b) ≠ x := by
  have bit : 1#8 <<< b ≠ 0#8 := by
    revert b
    decide
  intro h
  exact bit ((BitVec.xor_right_inj x).1 (h.trans BitVec.xor_zero.symm))

namespace Machine

@[simp] theorem flipBit_length (bs : List Byte) (k b : Nat) : (flipBit bs k b).length = bs.length :=
  List.length_modify ..

@[simp] theorem flipBit_cons_zero (x : Byte) (bs : List Byte) (b : Nat) :
    flipBit (x :: bs) 0 b = (x ^^^ (1#8 <<< b)) :: bs := rfl

@[simp] theorem flipBit_cons_succ (x : Byte) (bs : List Byte) (k b : Nat) :
    flipBit (x :: bs) (k + 1) b = x :: flipBit bs k b := rfl

theorem xorFold_flipBit {bs : List Byte} {k : Nat} (b : Nat) (hk : k < bs.length) :
    xorFold (flipBit bs k b) = xorFold bs ^^^ (1#8 <<< b) := by
  induction bs generalizing k with
  | nil => cases hk
  | cons x bs ih =>
    cases k with
    | zero => rw [flipBit_cons_zero, xorFold_cons, xorFold_cons, BitVec.xor_assoc, BitVec.xor_assoc,
        BitVec.xor_comm (1#8 <<< b)]
    | succ k => rw [flipBit_cons_succ, xorFold_cons, xorFold_cons, ih (Nat.lt_of_succ_lt_succ hk), BitVec.xor_assoc]

theorem xorFold_flipBit_ne {bs : List Byte} {k b : Nat} (hk : k < bs.length) (hb : b < 8) :
    xorFold (flipBit bs k b) ≠ xorFold bs := by
  rw [xorFold_flipBit b hk]
  exact xor_bit_ne _ hb

end Machine

/-- Settles O1: the laws of exclusive-or are those of `BitVec`; those of the fold are the lemmas above. -/
theorem xorFoldLaws : Obligations.XorFoldLaws := by
  refine ⟨xorFold_nil, xorFold_concat, ?laws, xorFold_append, xorFold_buildFrame, ?flip, ?differ⟩
  case laws => exact fun a b c => ⟨BitVec.xor_assoc .., BitVec.xor_comm .., BitVec.xor_zero, BitVec.xor_self⟩
  case flip => exact fun bs k b hk _ => Machine.xorFold_flipBit b hk
  case differ => exact fun bs k b hk hb => Machine.xorFold_flipBit_ne hk hb

end Sys2Proof

/-! ## `ENCODE` (R131) -/

namespace Sys2Proof.Machine

/-- Column `C` of R100 is at most 9. -/
theorem contentLength_le {k : Kind} {n : Nat} (h : k.contentLength = some n) : n ≤ 9 := by
  cases k <;> cases h <;> decide

theorem contentOf_length_le {cfg : Config} {m : Message} (h : m.kind.bearsChannel = true) :
    (contentOf cfg m).length ≤ 9 := by
  obtain ⟨n, hn⟩ := Option.isSome_iff_exists.1 h
  rw [contentOf_length hn]
  exact contentLength_le hn

theorem encodeMsg_of_bearsChannel {cfg : Config} {m : Message} (room : 9 ≤ cfg.maxContent)
    (h : m.kind.bearsChannel = true) :
    encodeMsg cfg m = .ok (buildFrame cfg (cfg.idOf m.kind) (contentOf cfg m)) :=
  encodeFrame_eq_ok.2 ⟨cfg.idOf_mem_ids m.kind, (contentOf_length_le h).trans room, rfl⟩

/-- Settles O2: the verdicts of `Encode` are `encodeFrame_eq_ok` and `encodeFrame_eq_error`, and the operation
answers with them. -/
theorem encodeBuildsFrameOrRefuses : Obligations.EncodeBuildsFrameOrRefuses := by
  refine ⟨fun id content => ⟨rfl, fun _ => rfl⟩, ?unrecognized, ?tooLong, ?built, ?message, ?operation⟩
  case unrecognized => exact fun cfg id content hid => encodeFrame_eq_error.2 (.inl ⟨hid, rfl⟩)
  case tooLong => exact fun cfg id content hid hlen => encodeFrame_eq_error.2 (.inr ⟨hid, hlen, rfl⟩)
  case built => exact fun cfg id content hid hlen => encodeFrame_eq_ok.2 ⟨hid, hlen, rfl⟩
  case message => exact fun cfg m room hm => encodeMsg_of_bearsChannel room hm
  case operation =>
    intro s id content hr
    rw [exec, execEncode, accept_ready hr, State.sample_cfg]
    refine ⟨fun f hf => ?_, fun e he => ?_⟩
    · rw [hf]
      rfl
    · rw [he]
      rfl

end Sys2Proof.Machine

/-! ## `DECODE`: what stands at the first sync byte decides (R135, R136, R143) -/

namespace Sys2Proof

/-- The buffers that `DECODE` answers without asking for more bytes, with the answer: a run of bytes without a sync byte,
then a `LEN` below `LEN_BIAS`, a whole sequence that fails the checksum test, or a frame. -/
inductive Decided (cfg : Config) : List Byte → Verdict → Prop
  | badLength (g : List Byte) (len : Byte) (rest : List Byte) (hg : cfg.syncByte ∉ g) (hlen : len.toNat < cfg.lenBias) :
    Decided cfg (g ++ cfg.syncByte :: len :: rest) (.checksumError g.length)
  | badSum (g : List Byte) (len id : Byte) (content : List Byte) (sum : Byte) (rest : List Byte)
    (hg : cfg.syncByte ∉ g) (hlen : content.length + cfg.lenBias = len.toNat)
    (hsum : xorFold (cfg.syncByte :: len :: id :: content) ≠ sum) :
    Decided cfg (g ++ cfg.syncByte :: len :: id :: (content ++ sum :: rest)) (.checksumError g.length)
  | frame (g : List Byte) (id : Byte) (content rest : List Byte) (hg : cfg.syncByte ∉ g)
    (fits : content.length + cfg.lenBias ≤ 255) :
    Decided cfg (g ++ buildFrame cfg id content ++ rest) (.frame id content (g.length + content.length + 4))

section
variable {cfg : Config} {buf g content : List Byte} {id len sum : Byte} {v : Verdict}

/-- A fitting `LEN` byte declares its content (R94, R96). -/
theorem lenByte_toNat (fits : content.length + cfg.lenBias ≤ 255) :
    (BitVec.ofNat 8 (content.length + cfg.lenBias)).toNat = content.length + cfg.lenBias := by
  rw [BitVec.toNat_ofNat, Nat.mod_eq_of_lt (by omega)]

theorem syncIndex_append_sync (hg : cfg.syncByte ∉ g) (rest : List Byte) :
    syncIndex cfg (g ++ cfg.syncByte :: rest) = g.length := by
  rw [syncIndex_append hg, syncIndex, if_pos rfl, Nat.add_zero]

/-- A whole sequence at the first sync byte: its fold decides. -/
theorem decodeFrame_candidate (hg : cfg.syncByte ∉ g) (hlen : content.length + cfg.lenBias = len.toNat)
    (rest : List Byte) :
    decodeFrame cfg (g ++ cfg.syncByte :: len :: id :: (content ++ sum :: rest)) =
      if xorFold (cfg.syncByte :: len :: id :: content) = sum then .frame id content (g.length + content.length + 4)
      else .checksumError g.length := by
  have hc : len.toNat - cfg.lenBias = content.length := by omega
  have notShort : ¬ len.toNat < cfg.lenBias := by omega
  simp only [decodeFrame, syncIndex_append_sync hg, List.drop_left, if_neg notShort, hc]
  simp [List.getD]

theorem Decided.decodeFrame_eq (h : Decided cfg buf v) : decodeFrame cfg buf = v := by
  cases h with
  | badLength g len rest hg hlen =>
    simp only [decodeFrame, syncIndex_append_sync hg, List.drop_left, if_pos hlen]
  | badSum g len id content sum rest hg hlen hsum => rw [decodeFrame_candidate hg hlen, if_neg hsum]
  | frame g id content rest hg fits =>
    rw [List.append_assoc, buildFrame_eq, List.cons_append, List.cons_append, List.cons_append, List.append_assoc,
      List.singleton_append, decodeFrame_candidate hg (lenByte_toNat fits).symm, if_pos rfl]

/-- Bytes after a decided buffer do not matter (R136 (c)). -/
theorem Decided.append (h : Decided cfg buf v) (x : List Byte) : Decided cfg (buf ++ x) v := by
  cases h with
  | badLength g len rest hg hlen => simpa using Decided.badLength g len (rest ++ x) hg hlen
  | badSum g len id content sum rest hg hlen hsum =>
    simpa using Decided.badSum g len id content sum (rest ++ x) hg hlen hsum
  | frame g id content rest hg fits => simpa using Decided.frame g id content (rest ++ x) hg fits

/-- The buffer is the bytes that the search skips and what stands at the sync byte. -/
theorem exists_skipped {rest : List Byte} (h : buf.drop (syncIndex cfg buf) = rest) :
    ∃ g, cfg.syncByte ∉ g ∧ g.length = syncIndex cfg buf ∧ buf = g ++ rest :=
  ⟨buf.take (syncIndex cfg buf), not_mem_take_syncIndex cfg buf, List.length_take_of_le (syncIndex_le cfg buf),
    by rw [← h, List.take_append_drop]⟩

/-- `DECODE` asks for more bytes from the sync byte on, or has decided. -/
theorem needMoreData_or_decided (cfg : Config) (buf : List Byte) :
    decodeFrame cfg buf = .needMoreData (syncIndex cfg buf) ∨ Decided cfg buf (decodeFrame cfg buf) := by
  refine decodeFrame_elim (P := fun v => v = .needMoreData (syncIndex cfg buf) ∨ Decided cfg buf v)
    ?short ?badLength ?cut ?bad ?good
  case short => exact fun _ => .inl rfl
  case cut => exact fun _ _ _ _ _ => .inl rfl
  case badLength =>
    intro len rest hd hlen
    obtain ⟨g, hg, hk, rfl⟩ := exists_skipped hd
    exact .inr (hk ▸ .badLength g len rest hg hlen)
  case bad =>
    intro len id content sum rest hd hlen hsum
    obtain ⟨g, hg, hk, rfl⟩ := exists_skipped hd
    exact .inr (hk ▸ .badSum g len id content sum rest hg hlen hsum)
  case good =>
    intro len id content sum rest hd hlen hsum
    obtain ⟨g, hg, hk, rfl⟩ := exists_skipped hd
    have hbyte : len = BitVec.ofNat 8 (content.length + cfg.lenBias) := by
      rw [hlen, BitVec.ofNat_toNat, BitVec.setWidth_eq]
    have fits : content.length + cfg.lenBias ≤ 255 := by
      have := len.isLt
      omega
    have decided := Decided.frame g id content rest hg fits
    rw [hk] at decided
    subst hsum hbyte
    exact .inr (by simpa [buildFrame_eq] using decided)

theorem decided_of_ne_needMoreData (h : decodeFrame cfg buf = v) (hv : ∀ skip, v ≠ .needMoreData skip) :
    Decided cfg buf v := by
  subst h
  exact (needMoreData_or_decided cfg buf).resolve_left (hv _)

/-- A checksum error is one of a sync byte (R141). -/
theorem exists_of_checksumError {n : Nat} (h : decodeFrame cfg buf = .checksumError n) :
    ∃ g rest, cfg.syncByte ∉ g ∧ g.length = n ∧ buf = g ++ cfg.syncByte :: rest := by
  cases decided_of_ne_needMoreData h nofun with
  | badLength g len rest hg => exact ⟨g, _, hg, rfl, rfl⟩
  | badSum g len id content sum rest hg => exact ⟨g, _, hg, rfl, rfl⟩

/-- `DECODE` waits at the sync byte, and only while less than the largest frame stands there (R136 (d)). -/
theorem waits_at_syncIndex {n : Nat} (h : decodeFrame cfg buf = .needMoreData n) :
    n = syncIndex cfg buf ∧ buf.length < n + cfg.largestFrame := by
  rcases decodeFrame_removed cfg buf with ⟨hv, hlen⟩ | ⟨hv, -⟩
  · obtain rfl : n = syncIndex cfg buf := Verdict.needMoreData.inj (h.symm.trans hv)
    exact ⟨rfl, hlen⟩
  · exact absurd h (hv n)

/-- Every answer speaks of the first sync byte. -/
theorem decodeFrame_at_syncIndex (cfg : Config) (buf : List Byte) :
    decodeFrame cfg buf = .needMoreData (syncIndex cfg buf) ∨ decodeFrame cfg buf = .checksumError (syncIndex cfg buf)
      ∨ ∃ id content, decodeFrame cfg buf = .frame id content (syncIndex cfg buf + content.length + 4) := by
  refine decodeFrame_elim (P := fun v => v = .needMoreData (syncIndex cfg buf) ∨ v = .checksumError (syncIndex cfg buf)
    ∨ ∃ id content, v = .frame id content (syncIndex cfg buf + content.length + 4)) ?short ?badLength ?cut ?bad ?good
  case short => exact fun _ => .inl rfl
  case cut => exact fun _ _ _ _ _ => .inl rfl
  case badLength => exact fun _ _ _ _ => .inr (.inl rfl)
  case bad => exact fun _ _ _ _ _ _ _ _ => .inr (.inl rfl)
  case good => exact fun _ id content _ _ _ _ _ => .inr (.inr ⟨id, content, rfl⟩)

/-- More bytes never move the sync byte at which `DECODE` waits (R136 (c)). -/
theorem decodeFrame_append_of_needMoreData {n : Nat} (h : decodeFrame cfg buf = .needMoreData n) (hn : n < buf.length)
    (x : List Byte) :
    decodeFrame cfg (buf ++ x) = .needMoreData n ∨ decodeFrame cfg (buf ++ x) = .checksumError n
      ∨ ∃ id content, decodeFrame cfg (buf ++ x) = .frame id content (n + content.length + 4) := by
  obtain ⟨rfl, -⟩ := waits_at_syncIndex h
  have at_sync := decodeFrame_at_syncIndex cfg (buf ++ x)
  rwa [syncIndex_append_of_lt hn] at at_sync

end

/-! ### A flipped bit (R143) -/

section
variable {cfg : Config} {id : Byte} {content : List Byte} {k b : Nat}

/-- A flip after the length byte leaves a whole sequence of the declared length. -/
theorem exists_flipBit_buildFrame (hk : 2 ≤ k) :
    ∃ id' content' sum', content'.length = content.length
      ∧ Machine.flipBit (buildFrame cfg id content) k b =
        cfg.syncByte :: BitVec.ofNat 8 (content.length + cfg.lenBias) :: id' :: (content' ++ [sum']) := by
  obtain ⟨k, rfl⟩ := Nat.exists_eq_add_of_le' hk
  rw [buildFrame_eq, Machine.flipBit_cons_succ, Machine.flipBit_cons_succ]
  generalize hf : Machine.flipBit (id :: (content ++ _)) k b = flipped
  have hlen : flipped.length = content.length + 2 := by simp [← hf]
  match flipped, hlen with
  | id' :: tail, hlen =>
    rcases List.eq_nil_or_concat tail with rfl | ⟨content', sum', rfl⟩
    · simp at hlen
    · exact ⟨id', content', sum', by simpa using hlen, by simp⟩

theorem decided_flipBit (fits : content.length + cfg.lenBias ≤ 255) (h2 : 2 ≤ k) (hk : k < content.length + 4)
    (hb : b < 8) : Decided cfg (Machine.flipBit (buildFrame cfg id content) k b) (.checksumError 0) := by
  have hsum : xorFold (Machine.flipBit (buildFrame cfg id content) k b) ≠ 0#8 := by
    rw [← xorFold_buildFrame cfg id content]
    exact Machine.xorFold_flipBit_ne (by rwa [buildFrame_length]) hb
  obtain ⟨id', content', sum', hlen, hf⟩ := exists_flipBit_buildFrame (cfg := cfg) (id := id) (content := content)
    (b := b) h2
  rw [hf] at hsum ⊢
  refine Decided.badSum [] _ id' content' sum' [] List.not_mem_nil ?_ ?_
  · rw [hlen, lenByte_toNat fits]
  · rintro rfl
    refine hsum ?_
    rw [← List.cons_append, ← List.cons_append, ← List.cons_append, xorFold_concat, BitVec.xor_self]

/-- A checksum error at offset 0 is one of a sync byte there. -/
theorem ne_checksumError_zero {a : Byte} (ha : a ≠ cfg.syncByte) (rest : List Byte) :
    decodeFrame cfg (a :: rest) ≠ .checksumError 0 := by
  intro h
  have at_sync := decodeFrame_at_syncIndex cfg (a :: rest)
  simp [h, syncIndex, ha] at at_sync

end

/-- Settles O4: a flip after the length byte leaves a whole sequence whose fold is not 0 (`decided_flipBit`). -/
theorem singleBitCorruptionDetected : Obligations.SingleBitCorruptionDetected := by
  refine ⟨?afterLength, ?sync, ?shortLength⟩
  case afterLength =>
    intro cfg id content x k b fits h2 hk hb
    exact ((decided_flipBit fits h2 hk hb).append x).decodeFrame_eq
  case sync =>
    intro cfg id content x b _ hb
    exact ne_checksumError_zero (xor_bit_ne cfg.syncByte hb) _
  case shortLength =>
    intro cfg len x hlen
    exact (Decided.badLength [] len x List.not_mem_nil hlen).decodeFrame_eq

end Sys2Proof

namespace Sys2Proof.Machine

/-- An encoded raw message is a frame that stands alone. -/
theorem decodeFrame_encodeFrame {cfg : Config} {id : Byte} {content : List Byte} {f : Frame} (hc : cfg.wf = true)
    (h : encodeFrame cfg id content = .ok f) : decodeFrame cfg f = .frame id content f.length := by
  obtain ⟨-, hlen, rfl⟩ := encodeFrame_eq_ok.1 h
  obtain ⟨hbias, hmax, -⟩ := Config.wf_bounds hc
  exact decodeFrame_buildFrame (by omega)

/-- Settles O3: a verdict but `NeedMoreData` is decided by bytes that more bytes do not change (`Decided`), and
`NeedMoreData` waits at the sync byte for less than the largest frame. -/
theorem decodeFindsFrames : Obligations.DecodeFindsFrames := by
  refine ⟨?pure, ?raw, ?message, ?frameStays, ?errorStays, ?waitStays, ?progress, ?noneMissed⟩
  case pure =>
    intro s buf hr
    rw [exec, execDecode, accept_ready hr]
    rfl
  case raw =>
    intro cfg id content f hc h
    rw [decodeFrame_encodeFrame hc h]
    obtain ⟨-, -, rfl⟩ := encodeFrame_eq_ok.1 h
    rw [buildFrame_length]
  case message =>
    intro cfg m f hc hm h
    exact ⟨_, _, decodeFrame_encodeFrame hc h, parse_messageContent hc hm⟩
  case frameStays =>
    intro cfg buf x id content n h
    exact ((decided_of_ne_needMoreData h nofun).append x).decodeFrame_eq
  case errorStays =>
    intro cfg buf x n h
    exact ((decided_of_ne_needMoreData h nofun).append x).decodeFrame_eq
  case waitStays => exact fun cfg buf x n h hn => decodeFrame_append_of_needMoreData h hn x
  case progress =>
    intro cfg buf n _ large h
    obtain ⟨rfl, hlen⟩ := waits_at_syncIndex h
    unfold Config.largestFrame at hlen
    omega
  case noneMissed =>
    intro cfg g id content x hg fits
    have hlen : (Claims.frameOf cfg id content).length = content.length + 4 := buildFrame_length cfg id content
    rw [hlen, ← Nat.add_assoc]
    exact (Decided.frame g id content x hg fits).decodeFrame_eq

end Sys2Proof.Machine

/-! ## `RX_STEP`: what it removes, and the drained buffer (R122, R140, R141) -/

namespace Sys2Proof.Machine

theorem exec_rxStep_of_needMoreData {s : State} {skip : Nat} (hr : s.Ready)
    (hd : decodeFrame s.cfg s.rxbuf = .needMoreData skip) :
    exec .rxStep s = .next ((s.sample.rxDrop skip).raise .needMoreData) := by
  simp only [exec, execRxStep, hd, accept_ready hr]

theorem exec_rxStep_of_checksumError {s : State} {skip : Nat} (hr : s.Ready)
    (hd : decodeFrame s.cfg s.rxbuf = .checksumError skip) :
    exec .rxStep s = .next (((s.sample.rxDrop (skip + 1)).notify
      (.warning (.checksum (s.rxPos + BitVec.ofNat 64 skip)))).raise (.checksum (s.rxPos + BitVec.ofNat 64 skip))) := by
  simp only [exec, execRxStep, hd, accept_ready hr, State.sample_rxPos]

theorem exec_rxStep_of_frame {s : State} {id : Byte} {content : List Byte} {n : Nat}
    (hd : decodeFrame s.cfg s.rxbuf = .frame id content n) :
    exec .rxStep s = exec (frameInstr s.cfg id content) (s.rxDrop n) := by
  simp only [exec, execRxStep, hd]
  exact dispatch_eq id content (s.rxDrop n)

/-- Settles O11: one lemma per verdict of `DECODE`. -/
theorem rxStepConsumesAndDispatches : Obligations.RxStepConsumesAndDispatches :=
  ⟨⟨rfl, fun _ => rfl⟩, fun _ _ hr hd => exec_rxStep_of_needMoreData hr hd,
    fun _ _ hr hd => exec_rxStep_of_checksumError hr hd, fun _ _ _ _ hd => exec_rxStep_of_frame hd⟩

/-- A frame, once consumed, moves the stream no further. -/
theorem rxStep_of_frame {s t : State} {id : Byte} {content : List Byte} {n : Nat} (h : exec .rxStep s = .next t)
    (hd : decodeFrame s.cfg s.rxbuf = .frame id content n) :
    t.rxbuf = s.rxbuf.drop n ∧ t.rxPos = s.rxPos + BitVec.ofNat 64 n := by
  rw [exec_rxStep_of_frame hd] at h
  obtain ⟨loc, wire⟩ := frameInstr_isLocal s.cfg id content
  obtain ⟨-, he⟩ := exec_ends loc h
  rcases he.registers with same | ⟨poll, -⟩
  · obtain ⟨-, -, -, -, hbuf, hpos, -⟩ := registers_eq same
    exact ⟨hbuf, hpos⟩
  · rw [poll] at wire
    cases wire

/-- Settles O12: by the verdict of `DECODE`, which names the bytes at the sync byte (`exists_of_checksumError`,
`decodeFrame_frame`). -/
theorem rxStepRemovesOneOfThree : Obligations.RxStepRemovesOneOfThree := by
  intro s hr
  cases hd : decodeFrame s.cfg s.rxbuf with
  | needMoreData skip =>
    obtain ⟨rfl, -⟩ := waits_at_syncIndex hd
    obtain ⟨g, hg, hk, hbuf⟩ := exists_skipped (cfg := s.cfg) (buf := s.rxbuf) rfl
    refine ⟨_, g, [], exec_rxStep_of_needMoreData hr hd, ?_, hg, ?_, .inl ⟨rfl, rfl⟩⟩
    · simpa using hbuf
    · simp [hk]
  | checksumError skip =>
    obtain ⟨g, rest, hg, rfl, hbuf⟩ := exists_of_checksumError hd
    refine ⟨_, g, [s.cfg.syncByte], exec_rxStep_of_checksumError hr hd, ?_, hg, rfl, .inr (.inl ⟨rfl, _, rfl⟩)⟩
    simp [hbuf]
  | frame id content n =>
    obtain ⟨fits, rfl, rest, hrest⟩ := decodeFrame_frame hd
    obtain ⟨g, hg, hk, hbuf⟩ := exists_skipped hrest
    obtain ⟨t, h⟩ := rxStep_accepted hr
    obtain ⟨hdrop, hpos⟩ := rxStep_of_frame h hd
    refine ⟨t, g, buildFrame s.cfg id content, h, ?_, hg, ?_, .inr (.inr ⟨id, content, rfl, of_decide_eq_true fits⟩)⟩
    · have left : t.rxbuf = rest := by
        rw [hdrop, Nat.add_assoc, ← List.drop_drop, hrest, ← buildFrame_length s.cfg id content, List.drop_left]
      rw [left, hbuf, List.append_assoc]
    · rw [hpos, buildFrame_length, hk, Nat.add_assoc]

/-- The next operation at the same time is accepted too. -/
theorem rxStep_ready {s t : State} (hr : s.Ready) (h : exec .rxStep s = .next t) : t.cfg = s.cfg ∧ t.Ready := by
  obtain ⟨hcfg, -, hlast, hnow, heng, -⟩ := registerWriters _ _ _ h
  refine ⟨hcfg, (heng rfl nofun).trans hr.1, ?_⟩
  rw [hlast, hnow]

/-- `NEED_MORE_DATA` leaves a buffer that is empty or begins with a sync byte. -/
theorem rxStep_head {s t : State} (h : exec .rxStep s = .next t) (more : t.result = some .needMoreData) :
    t.rxbuf = [] ∨ t.rxbuf.head? = some s.cfg.syncByte := by
  obtain ⟨hbuf, hres⟩ := rxStep_removed h
  obtain ⟨skip, hd⟩ := hres more
  obtain ⟨rfl, -⟩ := waits_at_syncIndex hd
  rw [hbuf, hd, Verdict.removed]
  rcases (syncIndex_le s.cfg s.rxbuf).lt_or_eq with found | none
  · obtain ⟨rest, hrest⟩ := drop_syncIndex found
    exact .inr (by rw [hrest, List.head?_cons])
  · exact .inl (List.drop_eq_nil_of_le none.ge)

/-- Every answer but `NEED_MORE_DATA` makes the buffer shorter. -/
theorem rxStep_progress {s : State} (hr : s.Ready) : ∃ t, exec .rxStep s = .next t ∧ t.rxbuf <:+ s.rxbuf
    ∧ (t.result ≠ some .needMoreData → t.rxbuf.length < s.rxbuf.length) := by
  obtain ⟨t, g, r, h, hbuf, -, -, removed⟩ := rxStepRemovesOneOfThree s hr
  refine ⟨t, h, ⟨g ++ r, hbuf.symm⟩, fun other => ?_⟩
  have nonempty : 0 < r.length := by
    rcases removed with ⟨-, more⟩ | ⟨rfl, -⟩ | ⟨id, content, rfl, -⟩
    · exact absurd more other
    · exact Nat.one_pos
    · exact Nat.succ_pos _
  rw [hbuf, List.length_append, List.length_append]
  omega

/-- One step more than the buffer has bytes reaches `NEED_MORE_DATA`. -/
theorem rxSteps_needMoreData {fuel : Nat} {s : State} (hr : s.Ready) (enough : s.rxbuf.length < fuel) :
    ∃ t, rxSteps fuel s = .next t ∧ t.result = some .needMoreData
      ∧ t.rxbuf <:+ s.rxbuf ∧ (t.rxbuf = [] ∨ t.rxbuf.head? = some s.cfg.syncByte) := by
  induction fuel generalizing s with
  | zero => exact absurd enough (Nat.not_lt_zero _)
  | succ fuel ih =>
    obtain ⟨t, h, suffix, shorter⟩ := rxStep_progress hr
    rw [rxSteps, h, andThen]
    by_cases more : t.result = some .needMoreData
    · exact ⟨t, if_pos more, more, suffix, rxStep_head h more⟩
    · obtain ⟨hcfg, hready⟩ := rxStep_ready hr h
      obtain ⟨u, hu, done, suffix', head⟩ := ih hready (by have := shorter more; omega)
      exact ⟨u, (if_neg more).trans hu, done, suffix'.trans suffix, hcfg ▸ head⟩

/-- Settles O13: each step but the last removes a byte (`rxStep_progress`). -/
theorem drainReachesNeedMoreData : Obligations.DrainReachesNeedMoreData :=
  fun _ hr => rxSteps_needMoreData hr (Nat.lt_succ_self _)

end Sys2Proof.Machine

/-! ## The host operations that write one frame for their channel (R160 to R169) -/

namespace Sys2Proof.Machine

/-! ### The branches of `Slot` and of the state check -/

theorem withSlot_of_none {s : State} {c : Byte} (h : s.slot? c = none) (k : Channel → State) :
    withSlot s c k = s.raise (.unknownChannel c) := by
  simp only [withSlot, h]

theorem withSlot_of_slot {s : State} {c : Byte} {v : Channel} (h : s.slot? c = some v) (k : Channel → State) :
    withSlot s c k = k v := by
  simp only [withSlot, h]

theorem inState_of_mem {s k : State} {c : Byte} {v : Channel} {sources : List ChState} (h : v.state ∈ sources) :
    inState s c v sources k = k := if_pos h

theorem inState_of_notMem {s k : State} {c : Byte} {v : Channel} {sources : List ChState} (h : v.state ∉ sources) :
    inState s c v sources k = s.raise (.invalidState c v.state) := if_neg h

theorem slot?_of_outOfRange {s : State} {c : Byte} (h : s.nCh.toNat ≤ c.toNat) : s.slot? c = none :=
  if_neg (Nat.not_lt.2 h)

/-! ### `Emit` in the vocabulary of the statements -/

theorem encodeMsg_of_short {cfg : Config} {m : Message} (h : (contentOf cfg m).length ≤ cfg.maxContent) :
    encodeMsg cfg m = .ok (Claims.frameOf cfg (cfg.idOf m.kind) (contentOf cfg m)) :=
  encodeFrame_eq_ok.2 ⟨cfg.idOf_mem_ids m.kind, h, rfl⟩

theorem encodeMsg_of_long {cfg : Config} {m : Message} (h : cfg.maxContent < (contentOf cfg m).length) :
    encodeMsg cfg m = .error .tooLong :=
  encodeFrame_eq_error.2 (.inr ⟨cfg.idOf_mem_ids m.kind, h, rfl⟩)

theorem sample_txWrite {s : State} {ok : Bool} (f : Frame) (h : s.txAnswer = ok) :
    s.sample.txWrite f = Claims.written s f ok := by
  subst h
  rfl

/-- What a refused write leaves behind (R160, R283). -/
theorem written_transportFault {s : State} {c : Byte} {v : Channel} (f : Frame) (hv : s.slot? c = some v) :
    ((Claims.written s f false).transportFault (some c)).raise (.transport (some c)) =
      { Claims.written s f false with
        ch := s.ch.set c.toNat { v with xfault := true }
        out := s.out ++ [.tx f false, .note (.transportFail (some c))]
        result := some (.transport (some c)) } := by
  rw [transportFault_slot (s := Claims.written s f false) hv]
  simp [State.notify, State.setSlot, State.raise, Claims.written]

/-! ### The rule of these operations -/

/-- An operation made of `Slot`, a state check and `Emit` follows R160: each clause of the rule is one branch of these
three steps. -/
theorem channelOpRule_of_exec {i : Instr} {op ch : Byte} {sources : List ChState} {kind : Kind}
    {content : State → Channel → List Byte} {post : State → Channel → State} (m : Channel → Message)
    (body : Channel → State → Frame → State) (opcode : Claims.Opcode i .host op)
    (run : ∀ s, exec i s = accept s fun s => withSlot s ch fun v => inState s ch v sources <|
      emit s (some ch) (m v) (body v))
    (hkind : ∀ v, (m v).kind = kind) (hcontent : ∀ s v, contentOf s.cfg (m v) = content s v)
    (hpost : ∀ v t f, body v t f = post t v) : Claims.ChannelOpRule i op ch sources kind content post := by
  refine ⟨opcode, fun s hr => ?_⟩
  rw [run, accept_ready hr]
  refine ⟨fun range => ?unknown, fun v hv => ?known⟩
  case unknown =>
    rw [withSlot_of_none (s := s.sample) (slot?_of_outOfRange range)]
    rfl
  case known =>
    have slot : s.slot? ch = some v := slot?_eq_some.2 hv
    rw [withSlot_of_slot (s := s.sample) slot, ← hcontent, ← hkind v]
    refine ⟨fun bad => ?state, fun good long => ?encoding, fun good short no => ?refused,
      fun good short ok => ?accepted⟩
    case state =>
      rw [inState_of_notMem bad]
      rfl
    case encoding =>
      rw [inState_of_mem good, emit_of_error (s := s.sample) (encodeMsg_of_long long)]
      rfl
    case refused =>
      rw [inState_of_mem good, emit_of_failed (s := s.sample) (encodeMsg_of_short short) no,
        sample_txWrite _ no, written_transportFault _ slot]
      rfl
    case accepted =>
      rw [inState_of_mem good, emit_of_accepted (s := s.sample) (encodeMsg_of_short short) ok,
        sample_txWrite _ ok, hpost]
      rfl

/-- Settles O16: `ASSIGN` and `UNASSIGN` each follow the rule. -/
theorem assignAndUnassign : Obligations.AssignAndUnassign :=
  ⟨fun ch ty nw => channelOpRule_of_exec (fun _ => .assignChannel ch ty nw) _ ⟨rfl, fun _ => rfl⟩ (fun _ => rfl)
      (fun _ => rfl) (fun _ _ => rfl) fun _ _ _ => rfl,
    fun ch => channelOpRule_of_exec (fun _ => .unassignChannel ch) _ ⟨rfl, fun _ => rfl⟩ (fun _ => rfl)
      (fun _ => rfl) (fun _ _ => rfl) fun _ _ _ => rfl⟩

/-! ### The configuration operations -/

theorem lo8_eq_setWidth (v : Half) : lo8 v = v.setWidth 8 := BitVec.ofNat_toNat 8 v

theorem hi8_eq_setWidth (v : Half) : hi8 v = (v >>> 8).setWidth 8 := by
  apply BitVec.eq_of_toNat_eq
  simp [hi8, Nat.shiftRight_eq_div_pow]

/-- Settles O17: each of the three follows the rule; the bytes of a 16-bit field are `lo8_eq_setWidth` and
`hi8_eq_setWidth`, the type byte is `sentDevType_of_fits` and `getLsbD_typeByte`. -/
theorem configurationOperations : Obligations.ConfigurationOperations := by
  refine ⟨fun ch dn dt tt => ?channelId, fun ch freq => ?rfFreq, fun ch period => ?period,
    fun cfg pairing devType clear => ?typeByte, fun cfg pairing devType hp => ?pairingBit⟩
  case channelId =>
    exact channelOpRule_of_exec (fun v => .setChannelId ch dn (dt.setWidth 8) v.pairing tt) _ ⟨rfl, fun _ => rfl⟩
      (fun _ => rfl) (fun _ => rfl) (fun _ _ => by rw [contentOf, lo8_eq_setWidth, hi8_eq_setWidth]) fun _ _ _ => rfl
  case rfFreq =>
    exact channelOpRule_of_exec (fun _ => .setRfFreq ch freq) _ ⟨rfl, fun _ => rfl⟩
      (fun _ => rfl) (fun _ => rfl) (fun _ _ => rfl) fun _ _ _ => rfl
  case period =>
    exact channelOpRule_of_exec (fun _ => .setPeriod ch period) _ ⟨rfl, fun _ => rfl⟩
      (fun _ => rfl) (fun _ => rfl) (fun _ _ => by rw [contentOf, lo8_eq_setWidth, hi8_eq_setWidth]) fun _ _ _ => rfl
  case typeByte =>
    have fits : cfg.devTypeFits devType = true := by simpa [Config.devTypeFits] using clear
    rw [Machine.typeByte, sentDevType_of_fits pairing fits]
  case pairingBit =>
    rw [getLsbD_typeByte hp, if_pos rfl]

/-- Settles O18: the branches of `Slot` and of the state check; no `Emit` follows. -/
theorem setPairingWritesFlagOnly : Obligations.SetPairingWritesFlagOnly := by
  refine ⟨fun _ _ => ⟨rfl, fun _ => rfl⟩, fun s ch bit hr => ?_⟩
  rw [exec, execSetPairing, accept_ready hr]
  refine ⟨fun range => ?unknown, fun v hv => ?known⟩
  case unknown =>
    rw [withSlot_of_none (s := s.sample) (slot?_of_outOfRange range)]
    rfl
  case known =>
    rw [withSlot_of_slot (s := s.sample) (slot?_eq_some.2 hv)]
    refine ⟨fun good => ?writes, fun notUnassigned notAssigned => ?refuses⟩
    case writes =>
      rw [inState_of_mem (List.mem_pair.2 good)]
      rfl
    case refuses =>
      have bad : v.state ∉ [ChState.unassigned, .assigned] :=
        fun h => (List.mem_pair.1 h).elim notUnassigned notAssigned
      rw [inState_of_notMem bad]
      rfl

/-! ### `OPEN`, `CLOSE`, `SEND_BROADCAST` -/

theorem cancelPending_eq_cancelled (s : State) (c : Byte) : s.cancelPending c = Claims.cancelled s c := by
  unfold State.cancelPending Claims.cancelled
  cases s.inFlight? c <;> rfl

/-- A cancellation reads and writes no slot of the channel table. -/
theorem setSlot_cancelPending (s : State) (c d : Byte) (v : Channel) :
    (s.setSlot c v).cancelPending d = (s.cancelPending d).setSlot c v := by
  unfold State.cancelPending
  rw [State.setSlot_inFlight?]
  cases s.inFlight? d <;> rfl

/-- Settles O19: each of the three follows the rule; `CLOSE` cancels the send in flight beside its slot write. -/
theorem openCloseAndBroadcast : Obligations.OpenCloseAndBroadcast := by
  refine ⟨fun ch => ?openCh, fun ch => ?closeCh, fun ch data => ?sendBroadcast⟩
  case openCh =>
    exact channelOpRule_of_exec (fun _ => .openChannel ch) _ ⟨rfl, fun _ => rfl⟩ (fun _ => rfl)
      (fun _ => rfl) (fun _ _ => rfl) fun _ _ _ => rfl
  case closeCh =>
    refine channelOpRule_of_exec (fun _ => .closeChannel ch) _ ⟨rfl, fun _ => rfl⟩ (fun _ => rfl)
      (fun _ => rfl) (fun _ _ => rfl) fun v t _ => ?_
    rw [setSlot_cancelPending, ← cancelPending_eq_cancelled]
    simp [State.setSlot, State.ret]
  case sendBroadcast =>
    exact channelOpRule_of_exec (fun _ => .broadcastData ch data) _ ⟨rfl, fun _ => rfl⟩ (fun _ => rfl)
      (fun _ => rfl) (fun _ _ => rfl) fun _ _ _ => rfl

end Sys2Proof.Machine

/-! ## The channel state machine: every change of a channel's state is a transition of R159 -/

namespace Sys2Proof.Machine

/-! ### The states of the channels (R26), and what leaves them -/

/-- The states of the channel table, slot by slot. -/
def State.states (s : State) : List ChState := s.ch.map Channel.state

theorem states_of_slot {s : State} {c : Byte} {v : Channel} (h : s.slot? c = some v) :
    s.states[c.toNat]? = some v.state := by
  simp [State.states, (slot?_eq_some.1 h).2]

theorem states_of_ch_eq {s t : State} (h : t.ch = s.ch) : t.states = s.states := congrArg (List.map Channel.state) h

theorem states_of_ch_set {s t : State} {c : Byte} {w : Channel} (h : t.ch = s.ch.set c.toNat w) :
    t.states = s.states.set c.toNat w.state := by
  rw [State.states, h, List.map_set, State.states]

/-- A slot write that keeps the slot's state. -/
theorem states_of_ch_set_same {s t : State} {c : Byte} {v w : Channel} (hv : s.slot? c = some v)
    (h : t.ch = s.ch.set c.toNat w) (hw : w.state = v.state) : t.states = s.states := by
  obtain ⟨_, hst⟩ := List.getElem?_eq_some_iff.1 (states_of_slot hv)
  rw [states_of_ch_set h, hw, ← hst, List.set_getElem_self]

section
variable (s : State)

@[simp] theorem State.raise_states (r : Result) : (s.raise r).states = s.states := rfl
@[simp] theorem State.txWrite_states (f : Frame) : (s.txWrite f).states = s.states := rfl
@[simp] theorem State.resolve_states (c : Byte) (p : Pending) (o : AckOutcome) :
    (s.resolve c p o).states = s.states := rfl

end

@[simp] theorem State.transportFault_states (s : State) (target : Option Byte) :
    (s.transportFault target).states = s.states :=
  transportFault_elim (P := fun t => t.states = s.states) (fun _ => rfl) (fun _ _ _ => rfl)
    fun _ _ _ hv => states_of_ch_set_same hv rfl rfl

@[simp] theorem State.ackFailed_states (s : State) (c : Byte) : (s.ackFailed c).states = s.states :=
  ackFailed_elim (P := fun t => t.states = s.states) (fun _ => rfl) (fun _ _ _ _ => rfl)
    (fun _ _ _ _ => by simp) fun _ _ _ => rfl

theorem tickChannel_states (a : State × Option Byte) (c : Byte) : (tickChannel a c).1.states = a.1.states :=
  tickChannel_elim (P := fun b => b.1.states = a.1.states) (fun _ => rfl) (fun _ _ _ => rfl) (fun _ _ _ _ _ => rfl)
    (fun _ _ _ _ _ => by simp) fun _ _ _ _ => rfl

theorem tickFold_states (cs : List Byte) (a : State × Option Byte) : (cs.foldl tickChannel a).1.states = a.1.states :=
  tickFold_elim (P := fun b => b.1.states = a.1.states) (fun b c h => (tickChannel_states b c).trans h) cs a rfl

theorem cancelFold_states (cs : List Byte) (s : State) : (cs.foldl State.cancelPending s).states = s.states :=
  cancelFold_elim (P := fun t => t.states = s.states)
    (fun a c h => (states_of_ch_eq (a.cancelPending_ch c)).trans h) cs s rfl

/-! ### What an instruction does to them -/

/-- Instruction `i` leaves the states of all channels, or moves one channel along a transition that it causes. -/
inductive StatesMove (cfg : Config) (i : Instr) (s t : State) : Prop
  | kept (h : t.states = s.states)
  | moved (c : Byte) (v : Channel) (st : ChState) (hv : s.slot? c = some v) (h : t.states = s.states.set c.toNat st)
    (ht : Transition c v.state st cfg i)

/-- One slot, which was `v`, becomes `w`. -/
theorem StatesMove.of_ch_set {cfg : Config} {i : Instr} {s t : State} {c : Byte} {v w : Channel}
    (hv : s.slot? c = some v) (hch : t.ch = s.ch.set c.toNat w) (ht : Transition c v.state w.state cfg i) :
    StatesMove cfg i s t := .moved c v w.state hv (states_of_ch_set hch) ht

/-- The same, counted from an earlier state with the same channel table. -/
theorem StatesMove.of_ch_eq {cfg : Config} {i : Instr} {s s' t : State} (h : StatesMove cfg i s' t)
    (hch : s'.ch = s.ch) (hn : s'.nCh = s.nCh) : StatesMove cfg i s t := by
  cases h with
  | kept h => exact .kept (h.trans (states_of_ch_eq hch))
  | moved c v st hv h ht =>
    refine .moved c v st ?_ (by rw [h, states_of_ch_eq hch]) ht
    rw [slot?_eq_some] at hv ⊢
    rwa [← hch, ← hn]

/-- A channel whose state differs afterwards is the one that moved. -/
theorem StatesMove.transition {cfg : Config} {i : Instr} {s t : State} {c : Byte} {v w : Channel}
    (h : StatesMove cfg i s t) (hv : s.slot? c = some v) (hw : t.slot? c = some w) (diff : w.state ≠ v.state) :
    Transition c v.state w.state cfg i := by
  have before := states_of_slot hv
  have after := states_of_slot hw
  cases h with
  | kept h => exact absurd (Option.some.inj (after.symm.trans (h ▸ before))) diff
  | moved d u st hu h ht =>
    rw [h] at after
    by_cases hd : d = c
    · subst hd
      obtain rfl : u = v := Option.some.inj (hu.symm.trans hv)
      obtain ⟨hl, -⟩ := List.getElem?_eq_some_iff.1 before
      obtain rfl : st = w.state := by simpa [hl] using after
      exact ht
    · rw [List.getElem?_set_ne (toNat_ne hd)] at after
      exact absurd (Option.some.inj (after.symm.trans before)) diff

theorem SlotWrite.transition {i : Instr} {c : Byte} {v w : Channel} (h : SlotWrite i c v w) (cfg : Config) :
    w.state = v.state ∨ Transition c v.state w.state cfg i := by
  cases h with
  | assign _ ty nw _ hs => exact .inr (by rw [hs]; exact ⟨ty, nw, rfl⟩)
  | openCh _ _ hs | unassign _ _ hs => exact .inr (by rw [hs]; exact rfl)
  | setChannelId | setRfFreq | setPeriod => exact .inl rfl

theorem closeCh_transition {st : ChState} (h : st.isOpen = true) (c : Byte) (cfg : Config) :
    Transition c st .closed cfg (.closeCh c) := by
  cases st with
  | searching => exact .inl rfl
  | tracking => exact rfl
  | unassigned | assigned | closed => cases h

theorem DataFor.transition {cfg : Config} {i : Instr} {c : Byte} (h : DataFor cfg i c) :
    Transition c .searching .tracking cfg i := by
  cases h with
  | broadcast _ rest => exact .inl ⟨rest, rfl⟩
  | acknowledged _ rest => exact .inr (.inl ⟨rest, rfl⟩)
  | burst c0 rest => exact .inr (.inr ⟨c0, rest, rfl, rfl⟩)

theorem Ends.statesMove {i : Instr} {s t : State} (he : Ends i s t) : StatesMove s.cfg i s t := by
  cases he with
  | said | noted | viewed | pollFailed | polled | sent | requestFailed | submitted => exact .kept rfl
  | writeFailed c v f hi hv => exact .kept (states_of_ch_set_same hv rfl rfl)
  | paired c bit v hi hv => exact .kept (states_of_ch_set_same hv rfl rfl)
  | completed => exact .kept (states_of_ch_eq (by simp))
  | transferFailed c initId code => exact .kept ((s.notify (.channelEvent c initId code)).ackFailed_states c)
  | wrote c v w f hi hv =>
    rcases hi.transition s.cfg with same | ht
    · exact .kept (states_of_ch_set_same hv rfl same)
    · exact .of_ch_set hv rfl ht
  | closed c v f hi hv ho =>
    exact .of_ch_set (w := { v with state := .closed }) hv (by simp) (hi ▸ closeCh_transition ho c s.cfg)
  | found c v kind seq data hi hv hs => exact .of_ch_set hv rfl (by rw [hs]; exact hi.transition)
  | timedOut c initId code v hi hv hs =>
    exact .of_ch_set (w := { v with state := .closed }) hv (by simp) (by rw [hs]; exact .inr ⟨initId, hi⟩)
  | lost c initId code v hi hv hs => exact .of_ch_set hv rfl (by rw [hs]; exact ⟨initId, hi⟩)

theorem exec_statesMove {i : Instr} {s t : State} (h : exec i s = .next t) (ho : Claims.isEngineOpen i = false) :
    StatesMove s.cfg (s.running i) s t := by
  cases exec_steps h with
  | opened | openFailed => cases ho
  | stopped => exact .kept (cancelFold_states s.channels s.sample)
  | ticked => exact .kept (tickFold_states s.channels (s.sample, none))
  | starved | skipped => exact .kept rfl
  | received _ id content n hd he =>
    rw [running_rxStep hd]
    exact he.statesMove.of_ch_eq rfl rfl
  | ended _ hl he =>
    rw [running_eq_self s (by rintro rfl; cases hl)]
    exact he.statesMove.of_ch_eq rfl rfl

/-- Settles O41: every instruction moves at most one channel, along a transition that it causes (`exec_statesMove`). -/
theorem onlyListedTransitions : Obligations.OnlyListedTransitions :=
  fun _ _ _ _ _ _ h ho hv hw diff => (exec_statesMove h ho).transition hv hw diff

end Sys2Proof.Machine

/-! ## Inbound frames: what the dispatcher does before, and in, each message's own rule (R200 to R217) -/

namespace Sys2Proof.Machine

/-! ### The lengths of contents (R103, R205) -/

/-- A content that holds a message has its kind's length, whatever the parameters. -/
theorem length_of_parseContent? {cfg : Config} {k : Kind} {content : List Byte} {m : Message} {n : Nat}
    (hk : k.contentLength = some n) (h : parseContent? cfg k content = some m) : content.length = n := by
  cases k with
  | unassignChannel | openChannel | closeChannel =>
    match content, h with
    | [_], _ => exact Option.some.inj hk
  | setRfFreq | requestMessage =>
    match content, h with
    | [_, _], _ => exact Option.some.inj hk
  | channelEvent | assignChannel | setPeriod =>
    match content, h with
    | [_, _, _], _ => exact Option.some.inj hk
  | setChannelId =>
    match content, h with
    | [_, _, _, _, _], _ => exact Option.some.inj hk
  | broadcastData | acknowledgedData | burstData =>
    match content, h with
    | _ :: data, h =>
      obtain ⟨p, hdata, -⟩ := Option.map_eq_some_iff.1 h
      rw [payloadOf?_eq_some.1 hdata]
      exact Option.some.inj hk
  | capabilities | serialNumber | startup => cases hk

theorem parseContent?_of_wrongLength {cfg : Config} {k : Kind} {content : List Byte} (hk : k.bearsChannel = true)
    (h : k.contentLength ≠ some content.length) : parseContent? cfg k content = none := by
  obtain ⟨n, hn⟩ := Option.isSome_iff_exists.1 hk
  refine Option.eq_none_iff_forall_ne_some.2 fun m hm => h ?_
  rw [hn, length_of_parseContent? hn hm]

theorem exists_parseContent? {cfg : Config} {k : Kind} {content : List Byte}
    (h : k.contentLength = some content.length) : ∃ m, parseContent? cfg k content = some m :=
  Option.isSome_iff_exists.1 (parseContent?_isSome fun _ hn => Option.some.inj (h.symm.trans hn))

/-! ### The branches of `routeChannel` (R200, R203, R204, R205); `routeChannel_of_parses` is the last one -/

section
variable {s : State} {k : Kind} {c0 : Byte} {rest : List Byte} {v : Channel} {handle : Byte → Channel → Message → State}

theorem routeChannel_of_noSlot (h : s.slot? (chanOf s.cfg k c0) = none) : routeChannel s k (c0 :: rest) handle =
    (s.warn (.unknownChannel (s.cfg.idOf k) (chanOf s.cfg k c0))).raise (.unknownChannel (chanOf s.cfg k c0)) := by
  simp only [routeChannel, h]

theorem routeChannel_of_unassigned (hv : s.slot? (chanOf s.cfg k c0) = some v) (h : v.state = .unassigned) :
    routeChannel s k (c0 :: rest) handle =
      (s.warn (.unknownChannel (s.cfg.idOf k) (chanOf s.cfg k c0))).raise (.unknownChannel (chanOf s.cfg k c0)) := by
  simp only [routeChannel, hv, h]

theorem routeChannel_of_closed (hv : s.slot? (chanOf s.cfg k c0) = some v) (h : v.state = .closed) :
    routeChannel s k (c0 :: rest) handle = s.drop .closed := by
  simp only [routeChannel, hv, h]

theorem routeChannel_of_malformed (hv : s.slot? (chanOf s.cfg k c0) = some v) (assigned : v.state ≠ .unassigned)
    (notClosed : v.state ≠ .closed) (hm : parseContent? s.cfg k (c0 :: rest) = none) :
    routeChannel s k (c0 :: rest) handle =
      (s.warn (.malformed (s.cfg.idOf k) (some (chanOf s.cfg k c0)))).drop .malformed := by
  simp only [routeChannel, hv, hm]

end

/-! ### The rejections -/

theorem bearsChannel_of_inbound {cfg : Config} {i : Instr} {k : Kind} {content : List Byte}
    (h : Claims.inbound? cfg i = some (k, content)) : k.bearsChannel = true := by
  cases i <;> cases h <;> rfl

/-- The row of every channel-bearing message is `routeChannel` on its content (R200). -/
theorem exec_of_inbound {i : Instr} {s : State} {k : Kind} {content : List Byte} (hr : s.Ready)
    (h : Claims.inbound? s.cfg i = some (k, content)) :
    ∃ handle, exec i s = .next (routeChannel s.sample k content handle) := by
  cases i with
  | msgChannelEvent | evtRxSearchTimeout | evtTransferTxCompleted | evtTransferTxFailed | evtRxFailGoToSearch =>
    cases h
    exact ⟨_, accept_ready hr fun s => routeEvent s _ _⟩
  | msgUnassignChannel | msgAssignChannel | msgSetPeriod | msgSetRfFreq | msgOpenChannel | msgCloseChannel
  | msgRequestMessage | msgSetChannelId =>
    cases h
    exact ⟨_, accept_ready hr fun s => routeChannel s _ _ fun c _ _ => s.unexpected _ c⟩
  | msgBroadcastData | msgAcknowledgedData | msgBurstData =>
    cases h
    exact ⟨_, accept_ready hr fun s => routeChannel s _ _ (handleData s _)⟩
  | _ => cases h

/-- Settles O25: each clause is one of the first branches of `routeChannel`, whatever rule of the message follows. -/
theorem inboundRejections : Obligations.InboundRejections := by
  intro i s k hr
  refine ⟨fun hi => ?empty, fun c0 rest c hi hc => ?_⟩
  case empty =>
    obtain ⟨handle, run⟩ := exec_of_inbound hr hi
    exact run
  obtain ⟨handle, run⟩ := exec_of_inbound hr hi
  subst hc
  rw [run]
  refine ⟨fun unknown => ?unknown, fun v hv => ?known⟩
  case unknown =>
    rcases unknown with range | ⟨v, hv, unassigned⟩
    · rw [routeChannel_of_noSlot (s := s.sample) (slot?_of_outOfRange range)]
      rfl
    · rw [routeChannel_of_unassigned (s := s.sample) (slot?_eq_some.2 hv) unassigned]
      rfl
  case known =>
    have slot : s.sample.slot? (chanOf s.cfg k c0) = some v := slot?_eq_some.2 hv
    refine ⟨fun closed => ?closed, fun assigned notClosed wrong => ?malformed⟩
    case closed =>
      rw [routeChannel_of_closed slot closed]
      rfl
    case malformed =>
      rw [routeChannel_of_malformed slot assigned notClosed
        (parseContent?_of_wrongLength (bearsChannel_of_inbound hi) wrong)]
      rfl

/-! ### The outbound-only kinds (R216) -/

/-- A row whose rule is to drop the message does so for every content of its kind's length. -/
theorem droppedUnexpected_of_exec {i : Instr} {s : State} {k : Kind} {c0 c : Byte} {rest : List Byte} {v : Channel}
    (run : exec i s = accept s fun s => routeChannel s k (c0 :: rest) fun c _ _ => s.unexpected k c)
    (hr : s.Ready) (hc : chanOf s.cfg k c0 = c) (hv : Claims.HasSlot s c v) (assigned : v.state ≠ .unassigned)
    (notClosed : v.state ≠ .closed) (hlen : k.contentLength = some (rest.length + 1)) :
    exec i s = .next (Claims.droppedUnexpected s k c) := by
  subst hc
  obtain ⟨m, hm⟩ := exists_parseContent? (cfg := s.cfg) (content := c0 :: rest) hlen
  rw [run, accept_ready hr,
    routeChannel_of_parses (s := s.sample) _ (slot?_eq_some.2 hv) assigned notClosed hm]
  rfl

/-- Settles O26: kind by kind, the same row (`droppedUnexpected_of_exec`). -/
theorem outboundOnlyKindsDropped : Obligations.OutboundOnlyKindsDropped := by
  intro s c v hr hv assigned notClosed x y z w
  and_intros <;> exact droppedUnexpected_of_exec rfl hr rfl hv assigned notClosed rfl

/-! ### Data messages (R211, R212) -/

section
variable {s : State} {k : Kind} {c : Byte} {v : Channel} {m : Message} {kind : DataKind} {seq : Byte} {data : Payload}

theorem handleData_of_searching (hm : dataFields m = some (kind, seq, data)) (h : v.state = .searching) :
    handleData s k c v m = (((s.setSlot c { v with state := .tracking }).notify (.deviceFound c)).notify
      (.data c kind seq data)).ret .none := by
  simp only [handleData, hm, h]

theorem handleData_of_tracking (hm : dataFields m = some (kind, seq, data)) (h : v.state = .tracking) :
    handleData s k c v m = (s.notify (.data c kind seq data)).ret .none := by
  simp only [handleData, hm, h]

theorem handleData_of_assigned (hm : dataFields m = some (kind, seq, data)) (h : v.state = .assigned) :
    handleData s k c v m = s.unexpected k c := by
  simp only [handleData, hm, h]

/-- A row that hands its message to `handleData` follows R211 and R212 with the fields of that message. -/
theorem dataRule_of_exec {i : Instr} {c0 : Byte} {rest : List Byte}
    (run : exec i s = accept s fun s => routeChannel s k (c0 :: rest) (handleData s k)) (hr : s.Ready)
    (hc : chanOf s.cfg k c0 = c) (hm : parseContent? s.cfg k (c0 :: rest) = some m)
    (hf : dataFields m = some (kind, seq, data)) : Claims.DataRule i s k c kind seq data := by
  subst hc
  intro v hv
  have reaches (assigned : v.state ≠ .unassigned) (notClosed : v.state ≠ .closed) :
      exec i s = .next (handleData s.sample k (chanOf s.cfg k c0) v m) := by
    rw [run, accept_ready hr,
      routeChannel_of_parses (s := s.sample) _ (slot?_eq_some.2 hv) assigned notClosed hm]
    rfl
  refine ⟨fun h => ?searching, fun h => ?tracking, fun h => ?assigned⟩
  case searching =>
    rw [reaches (by simp [h]) (by simp [h]), handleData_of_searching hf h]
    simp [State.setSlot, State.notify, State.ret, State.sample, Claims.answered]
  case tracking =>
    rw [reaches (by simp [h]) (by simp [h]), handleData_of_tracking hf h]
    rfl
  case assigned =>
    rw [reaches (by simp [h]) (by simp [h]), handleData_of_assigned hf h]
    rfl

end

/-- Settles O27: the three rows differ in the fields of their messages alone. -/
theorem dataMessagesTrackAndSurface : Obligations.DataMessagesTrackAndSurface :=
  fun _ _ _ hr => ⟨dataRule_of_exec rfl hr rfl rfl rfl, dataRule_of_exec rfl hr rfl rfl rfl,
    dataRule_of_exec rfl hr rfl rfl rfl⟩

/-! ### Channel events (R213 to R215, R217) -/

/-- A row of a named event forwards it and goes on with what its code does. -/
theorem exec_event_of_slot {i : Instr} {s : State} {c initId : Byte} {v : Channel} (code : Config → Byte)
    (act : State → Byte → Channel → State)
    (run : exec i s = accept s fun s => routeEvent s [c, initId, code s.cfg] act) (hr : s.Ready)
    (hv : Claims.HasSlot s c v) (assigned : v.state ≠ .unassigned) (notClosed : v.state ≠ .closed) :
    exec i s = .next (act (s.sample.notify (.channelEvent c initId (code s.cfg))) c v) := by
  rw [run, accept_ready hr,
    routeEvent_of_slot (s := s.sample) _ _ _ (slot?_eq_some.2 hv) assigned notClosed]
  rfl

/-- A cancellation reads and writes no result. -/
theorem ret_cancelPending (s : State) (c : Byte) (x : Value) :
    (s.ret x).cancelPending c = (s.cancelPending c).ret x := by
  unfold State.cancelPending
  rw [State.ret_inFlight?]
  cases s.inFlight? c <;> rfl

/-- A slot write, the cancellation and `OK`, in the vocabulary of the statements. -/
theorem closed_eq_cancelled (s : State) (c : Byte) (w : Channel) :
    ((s.setSlot c w).cancelPending c).ret .none =
      { Claims.cancelled (s.ret .none) c with ch := s.ch.set c.toNat w } := by
  rw [← cancelPending_eq_cancelled, ret_cancelPending, setSlot_cancelPending]
  simp [State.setSlot, State.ret]

/-- Settles O28: each row forwards the event (`exec_event_of_slot`); its code acts in one state only. -/
theorem searchEventsMoveTheChannel : Obligations.SearchEventsMoveTheChannel := by
  intro s c initId v hr hv assigned notClosed
  have timeout := exec_event_of_slot (i := .evtRxSearchTimeout c initId) Config.evRxSearchTimeout _ rfl hr hv
    assigned notClosed
  have lost := exec_event_of_slot (i := .evtRxFailGoToSearch c initId) Config.evRxFailGoToSearch _ rfl hr hv
    assigned notClosed
  rw [timeout, lost]
  refine ⟨fun h => ?closes, fun h => ?timeoutForwarded, fun h => ?searches, fun h => ?lostForwarded⟩
  case closes =>
    simp only [h]
    exact congrArg Host.Outcome.next (closed_eq_cancelled (s.sample.notify _) c _)
  case timeoutForwarded =>
    split
    · exact absurd ‹_› h
    · rfl
  case searches =>
    simp only [h]
    rfl
  case lostForwarded =>
    split
    · exact absurd ‹_› h
    · rfl

/-! ### The transfer events (R215, R244, R245, R246) -/

theorem inFlight?_of_invalid {s : State} {c : Byte} {p : Pending} (hp : s.pa[c.toNat]? = some p)
    (h : p.valid = false) : s.inFlight? c = none :=
  inFlight?_eq_none.2 fun _ _ hq => Option.some.inj (hp.symm.trans hq) ▸ h

theorem ackCompleted_of_idle {s : State} {c : Byte} (h : s.inFlight? c = none) : s.ackCompleted c = s := by
  simp only [State.ackCompleted, h]

theorem ackCompleted_of_inFlight {s : State} {c : Byte} {p : Pending} (h : s.inFlight? c = some p) :
    s.ackCompleted c = s.resolve c p .success := by
  simp only [State.ackCompleted, h]

theorem ackFailed_of_idle {s : State} {c : Byte} (h : s.inFlight? c = none) : s.ackFailed c = s.ret .none := by
  simp only [State.ackFailed, h]

theorem ackFailed_of_inFlight {s t : State} {c : Byte} {p : Pending} {ok : Bool} (h : s.inFlight? c = some p)
    (ht : s.retryOrFail c p = (t, ok)) :
    s.ackFailed c = if ok then t.ret .none else t.raise (.transport (some c)) := by
  simp only [State.ackFailed, h, ht]
  cases ok <;> rfl

theorem txWrite_of_answer {s : State} {ok : Bool} (f : Frame) (h : s.txAnswer = ok) : s.txWrite f =
    { s with inp := { s.inp with txAnswers := s.inp.txAnswers.tail }, out := s.out ++ [.tx f ok] } := by
  subst h
  rfl

/-- Settles O29: each row forwards the event (`exec_event_of_slot`); the rest is the branches of `ackCompleted`, of
`ackFailed` and of `retryOrFail`. -/
theorem transferEventsResolveOrRetry : Obligations.TransferEventsResolveOrRetry := by
  intro s c initId v p hr hv assigned notClosed hp
  have completed := exec_event_of_slot (i := .evtTransferTxCompleted c initId) Config.evTransferTxCompleted _ rfl hr hv
    assigned notClosed
  have failed := exec_event_of_slot (i := .evtTransferTxFailed c initId) Config.evTransferTxFailed _ rfl hr hv
    assigned notClosed
  have idle (n : Notification) (h : p.valid = false) : (s.sample.notify n).inFlight? c = none :=
    inFlight?_of_invalid hp h
  have busy (n : Notification) (h : p.valid = true) : (s.sample.notify n).inFlight? c = some p :=
    inFlight?_eq_some.2 ⟨hv.1, hp, h⟩
  rw [completed, failed]
  refine ⟨fun valid => ?succeeds, fun invalid => ?completedIdle, fun invalid => ?failedIdle,
    fun valid exhausted => ?fails, fun valid left ok => ?resends, fun valid left no => ?refused⟩
  case succeeds =>
    rw [ackCompleted_of_inFlight (busy _ valid)]
    simp [State.resolve, State.setPend, State.notify, State.ret, State.sample, Claims.answered]
  case completedIdle =>
    rw [ackCompleted_of_idle (idle _ invalid)]
    rfl
  case failedIdle =>
    rw [ackFailed_of_idle (idle _ invalid)]
    rfl
  case fails =>
    rw [ackFailed_of_inFlight (busy _ valid) (retryOrFail_exhausted c exhausted)]
    simp [State.resolve, State.setPend, State.notify, State.ret, State.sample, Claims.answered]
  case resends =>
    rw [ackFailed_of_inFlight (busy _ valid) (retryOrFail_resent c left ok),
      txWrite_of_answer (s := s.sample.notify _) p.frame ok]
    simp [State.setPend, State.notify, State.ret, State.sample, Claims.answered]
  case refused =>
    rw [ackFailed_of_inFlight (busy _ valid) (retryOrFail_refused left no (slot?_eq_some.2 hv)),
      txWrite_of_answer (s := s.sample.notify _) p.frame no]
    simp [State.resolve, State.setPend, State.setSlot, State.notify, State.raise, State.sample, Claims.answered]

/-! ### System messages and unrecognized ids (R201, R202) -/

/-- Settles O31: each row is one acceptance test around `dispatchSystem`, or around the warning and the drop. -/
theorem systemAndUnknownMessages : Obligations.SystemAndUnknownMessages := by
  intro s id content hr
  exact ⟨accept_ready hr fun s => dispatchSystem s .capabilities content,
    accept_ready hr fun s => dispatchSystem s .serialNumber content,
    accept_ready hr fun s => dispatchSystem s .startup content,
    accept_ready hr fun s => (s.warn (.unknownId id)).drop .unknownId⟩

end Sys2Proof.Machine

/-! ## The submissions `SEND_ACK` and `SEND_BURST` (R105, R241 to R243) -/

namespace Sys2Proof.Machine

/-! ### The branches of `Submit` -/

section
variable {s : State} {c : Byte} {v : Channel} (kind : SendKind) (m : Message)

theorem submit_of_none (hv : s.slot? c = none) : submit s c kind m = s.raise (.unknownChannel c) :=
  withSlot_of_none hv _

theorem submit_of_notOpen (hv : s.slot? c = some v) (ho : v.state.isOpen = false) :
    submit s c kind m = s.raise (.channelNotOpen c v.state) := by
  rw [submit, withSlot_of_slot hv, if_neg (by simp [ho])]

theorem submit_of_inFlight {p : Pending} (hv : s.slot? c = some v) (ho : v.state.isOpen = true)
    (hp : s.inFlight? c = some p) : submit s c kind m = s.raise (.sendInProgress c) := by
  rw [submit, withSlot_of_slot hv, if_pos ho]
  simp only [hp]

theorem submit_of_idle (hv : s.slot? c = some v) (ho : v.state.isOpen = true) (hp : s.inFlight? c = none) :
    submit s c kind m = emit s (some c) m fun s f =>
      (s.setPend c { valid := true, frame := f, kind := kind, sentAt := s.inp.now, retries := 0#8 }).ret
        (.handle c) := by
  rw [submit, withSlot_of_slot hv, if_pos ho]
  simp only [hp]

end

/-! ### The rule of the two submissions -/

/-- An operation that submits a message with nine content bytes follows R243: each clause of the rule is one branch of
`Submit`, or of the `Emit` it ends in. -/
theorem submitRule_of_exec {i : Instr} {op ch : Byte} {send : SendKind} {kind : Kind} {content : State → List Byte}
    (m : Message) (opcode : Claims.Opcode i .host op) (run : ∀ s, exec i s = accept s fun s => submit s ch send m)
    (hkind : m.kind = kind) (hcontent : ∀ s, contentOf s.cfg m = content s) (hlen : ∀ s, (content s).length = 9) :
    Claims.SubmitRule i op ch send kind content := by
  refine ⟨opcode, fun s hr => ?_⟩
  rw [run, accept_ready hr]
  refine ⟨fun range => ?unknown, fun v p hv hp => ?known⟩
  case unknown =>
    rw [submit_of_none (s := s.sample) send m (slot?_of_outOfRange range)]
    rfl
  case known =>
    have slot : s.slot? ch = some v := slot?_eq_some.2 hv
    have idle (free : p.valid = false) : s.sample.inFlight? ch = none := inFlight?_of_invalid hp free
    have nine : (contentOf s.cfg m).length = 9 := by rw [hcontent, hlen]
    rw [← hcontent, ← hkind]
    refine ⟨fun shut => ?notOpen, fun ho busy => ?inProgress, fun ho free long => ?encoding,
      fun ho free short no => ?refused, fun ho free short ok => ?accepted⟩
    case notOpen =>
      rw [submit_of_notOpen (s := s.sample) send m slot shut]
      rfl
    case inProgress =>
      rw [submit_of_inFlight (s := s.sample) send m slot ho (inFlight?_eq_some.2 ⟨hv.1, hp, busy⟩)]
      rfl
    case encoding =>
      rw [submit_of_idle (s := s.sample) send m slot ho (idle free),
        emit_of_error (s := s.sample) (encodeMsg_of_long (nine.symm ▸ long))]
      rfl
    case refused =>
      rw [submit_of_idle (s := s.sample) send m slot ho (idle free),
        emit_of_failed (s := s.sample) (encodeMsg_of_short (nine.symm ▸ short)) no, sample_txWrite _ no,
        written_transportFault _ slot]
      rfl
    case accepted =>
      rw [submit_of_idle (s := s.sample) send m slot ho (idle free),
        emit_of_accepted (s := s.sample) (encodeMsg_of_short (nine.symm ▸ short)) ok, sample_txWrite _ ok]
      rfl

/-! ### The first byte of a burst, whatever the parameters -/

/-- Where the channel bits fill the byte, no bit of the sequence field is left. -/
theorem burstByte_of_noRoom {cfg : Config} (h : 8 ≤ cfg.burstChBits) (seq chan : Byte) :
    burstByte cfg seq chan = chan := by
  rw [burstByte, BitVec.shiftLeft_eq_zero h, BitVec.zero_or]

theorem burstChan_of_lt {cfg : Config} {c : Byte} (hc : c.toNat < 2 ^ cfg.burstChBits) : burstChan cfg c = c := by
  rw [burstChan, Nat.mod_eq_of_lt hc, BitVec.ofNat_toNat, BitVec.setWidth_eq]

/-- Settles O20: both operations follow the rule of `submitRule_of_exec`; the byte of a burst is `sentSeq_of_fits`, and
`burstChan_burstByte` reads the channel back. -/
theorem submitRecordsOnePendingSend : Obligations.SubmitRecordsOnePendingSend := by
  refine ⟨fun ch data => ?ack, fun ch seq data => ?burst, fun cfg seq chan room => ?byte,
    fun cfg seq chan fits => ?chan⟩
  case ack =>
    exact submitRule_of_exec (.acknowledgedData ch data) ⟨rfl, fun _ => rfl⟩ (fun _ => rfl) rfl (fun _ => rfl)
      fun _ => rfl
  case burst =>
    exact submitRule_of_exec (.burstData ch (seq.setWidth 8) data) ⟨rfl, fun _ => rfl⟩ (fun _ => rfl) rfl
      (fun _ => rfl) fun _ => rfl
  case byte =>
    rw [burstByte, sentSeq_of_fits chan (by simpa [Config.seqFits] using room)]
  case chan =>
    rcases Nat.le_total cfg.burstChBits 8 with narrow | wide
    · exact burstChan_burstByte seq narrow fits
    · rw [burstByte_of_noRoom wide, burstChan_of_lt fits]

end Sys2Proof.Machine

/-! ## `TICK`: its passes over the channels, one after the other (R246, R248, R249) -/

namespace Sys2Proof.Machine

/-! ### A table whose first slots are changed -/

section
variable {α : Type} (f : Nat → α → α) (l : List α)

/-- The first `k` slots changed by `f`, the others as they are. -/
def mapBelow (k : Nat) : List α := l.mapIdx fun c x => if c < k then f c x else x

theorem mapBelow_zero : mapBelow f l 0 = l := by
  refine List.mapIdx_eq_iff.2 fun c => ?_
  simp

theorem getElem?_mapBelow_self (k : Nat) : (mapBelow f l k)[k]? = l[k]? := by
  simp [mapBelow, List.getElem?_mapIdx]

theorem mapBelow_succ (k : Nat) : mapBelow f l (k + 1) = (mapBelow f l k).modify k (f k) := by
  refine List.mapIdx_eq_iff.2 fun c => ?_
  rw [List.getElem?_modify, mapBelow, List.getElem?_mapIdx]
  rcases Nat.lt_trichotomy c k with h | rfl | h
  · simp [h, Nat.lt_succ_of_lt h, Nat.ne_of_gt h]
  · simp
  · simp [Nat.not_lt.2 h, Nat.not_lt.2 (Nat.le_of_lt h), Nat.ne_of_lt h]

theorem mapBelow_of_fixed {k : Nat} (fixed : ∀ c x, k ≤ c → f c x = x) : mapBelow f l k = l.mapIdx f := by
  refine (List.mapIdx_eq_iff.2 fun c => ?_).symm
  rw [mapBelow, List.getElem?_mapIdx]
  by_cases h : c < k
  · simp [h]
  · have same : f c = id := funext fun x => fixed c x (Nat.le_of_not_lt h)
    simp [h, same]

end

theorem modify_of_getElem? {α : Type} {l : List α} {k : Nat} {x : α} (f : α → α) (h : l[k]? = some x) :
    l.modify k f = l.set k (f x) := by
  simp [List.modify_eq_set_getElem?, h]

/-! ### What the statement's vocabulary says of one channel -/

section
variable {s : State} {c : Byte} {p : Pending}

theorem dueAt?_eq (s : State) (c : Byte) : Claims.dueAt? s c.toNat = (s.inFlight? c).filter s.isDue := by
  unfold Claims.dueAt? State.inFlight? State.pend?
  split
  · rw [Option.filter_filter]
    rfl
  · rfl

theorem dueAt?_of_idle (h : s.inFlight? c = none) : Claims.dueAt? s c.toNat = none := by
  rw [dueAt?_eq, h]
  rfl

theorem dueAt?_of_early (h : s.inFlight? c = some p) (early : s.isDue p = false) :
    Claims.dueAt? s c.toNat = none := by
  simp [dueAt?_eq, h, early]

theorem dueAt?_of_due (h : s.inFlight? c = some p) (due : s.isDue p = true) :
    Claims.dueAt? s c.toNat = some p := by
  simp [dueAt?_eq, h, due]

theorem dueAt?_of_outOfRange {k : Nat} (h : s.nCh.toNat ≤ k) : Claims.dueAt? s k = none := if_neg (Nat.not_lt.2 h)

end

section
variable {s : State} {k : Nat} {p : Pending}

theorem resendsAt_of_none (h : Claims.dueAt? s k = none) : Claims.resendsAt s k = false := by
  rw [Claims.resendsAt, h]
  rfl

theorem resendsAt_of_left (h : Claims.dueAt? s k = some p) (left : p.retries.toNat < s.maxRetries.toNat) :
    Claims.resendsAt s k = true := by
  simpa [Claims.resendsAt, h] using left

theorem resendsAt_of_exhausted (h : Claims.dueAt? s k = some p) (used : s.maxRetries.toNat ≤ p.retries.toNat) :
    Claims.resendsAt s k = false := by
  simpa [Claims.resendsAt, h] using used

theorem passOutputs_of_none (h : Claims.dueAt? s k = none) : Claims.passOutputs s k = [] := by
  rw [Claims.passOutputs, h]

theorem passOutputs_of_left (h : Claims.dueAt? s k = some p) (left : p.retries.toNat < s.maxRetries.toNat) :
    Claims.passOutputs s k = Claims.resendOutputs (BitVec.ofNat 8 k) p (Claims.answerAt s k) := by
  simp [Claims.passOutputs, h, left]

theorem passOutputs_of_exhausted (h : Claims.dueAt? s k = some p) (used : s.maxRetries.toNat ≤ p.retries.toNat) :
    Claims.passOutputs s k = [.note (.ackResolved (BitVec.ofNat 8 k) .failed)] := by
  simp [Claims.passOutputs, h, Nat.not_lt.2 used]

/-- What `TICK` makes of the slot `v` of channel `k`. -/
def slotAfter (s : State) (k : Nat) (v : Channel) : Channel :=
  if Claims.refusedAt s k then { v with xfault := true } else v

/-- What `TICK` makes of the pending slot `p` of channel `k`. -/
def pendAfter (s : State) (k : Nat) (p : Pending) : Pending :=
  if (Claims.dueAt? s k).isNone then p
  else if p.retries.toNat < s.maxRetries.toNat then Claims.resent s p (Claims.answerAt s k)
  else { p with valid := false }

theorem pendAfter_of_none (h : Claims.dueAt? s k = none) (q : Pending) : pendAfter s k q = q := by
  simp [pendAfter, h]

theorem pendAfter_of_left (h : Claims.dueAt? s k = some p) (left : p.retries.toNat < s.maxRetries.toNat) :
    pendAfter s k p = Claims.resent s p (Claims.answerAt s k) := by
  simp [pendAfter, h, left]

theorem pendAfter_of_exhausted (h : Claims.dueAt? s k = some p) (used : s.maxRetries.toNat ≤ p.retries.toNat) :
    pendAfter s k p = { p with valid := false } := by
  simp [pendAfter, h, Nat.not_lt.2 used]

end

/-! ### The state after some passes -/

/-- The state after the passes for the channels below `k`, in the vocabulary of the statement. -/
def afterPasses (s : State) (k : Nat) : State :=
  { s with
    inp := { s.inp with txAnswers := s.inp.txAnswers.drop ((List.range k).countP (Claims.resendsAt s)) }
    ch := mapBelow (slotAfter s) s.ch k
    pa := mapBelow (pendAfter s) s.pa k
    out := s.out ++ (List.range k).flatMap (Claims.passOutputs s) }

section
variable (s : State) (c : Byte)

theorem afterPasses_zero : afterPasses s 0 = s := by
  simp [afterPasses, mapBelow_zero]

/-- One pass more: each table changes at its own channel, and an answer is used when there is a resend. -/
theorem afterPasses_succ (k : Nat) : afterPasses s (k + 1) =
    { afterPasses s k with
      inp := { s.inp with
        txAnswers := (afterPasses s k).inp.txAnswers.drop (if Claims.resendsAt s k then 1 else 0) }
      ch := (afterPasses s k).ch.modify k (slotAfter s k)
      pa := (afterPasses s k).pa.modify k (pendAfter s k)
      out := (afterPasses s k).out ++ Claims.passOutputs s k } := by
  simp [afterPasses, mapBelow_succ, List.range_succ, List.countP_singleton]

/-- The pass for a channel finds its pending slot as it was. -/
theorem afterPasses_inFlight? : (afterPasses s c.toNat).inFlight? c = s.inFlight? c := by
  simp only [State.inFlight?, State.pend?, afterPasses, getElem?_mapBelow_self]

/-- The pass for a channel uses the answer that `answerAt` names. -/
theorem afterPasses_txAnswer (k : Nat) : (afterPasses s k).txAnswer = Claims.answerAt s k := by
  rw [State.txAnswer, List.headD_eq_head?_getD, afterPasses, List.head?_drop]
  rfl

end

theorem modify_self {α : Type} (l : List α) (k : Nat) {f : α → α} (h : ∀ x, f x = x) : l.modify k f = l := by
  rw [funext h]
  exact List.modify_id k l

/-- A refused resend sets the fault bit of the channel's slot, if it has one (R246, R283). -/
theorem transportFault_eq_modify {s : State} {c : Byte} (h : c.toNat < s.nCh.toNat) :
    s.transportFault (some c) =
      ({ s with ch := s.ch.modify c.toNat fun v => { v with xfault := true } } : State).notify
        (.transportFail (some c)) := by
  have slot : s.slot? c = s.ch[c.toNat]? := if_pos h
  cases hv : s.ch[c.toNat]? with
  | none => simp [State.transportFault, State.setXfault, slot, hv, List.modify_eq_set_getElem?]
  | some v => rw [transportFault_slot (slot.trans hv), modify_of_getElem? _ hv]; rfl

/-! ### One pass -/

section
variable {s : State} {c : Byte} {p : Pending}

theorem slotAfter_of_accepted {k : Nat} (h : Claims.refusedAt s k = false) (v : Channel) : slotAfter s k v = v := by
  simp [slotAfter, h]

theorem refusedAt_of_not_resendsAt {k : Nat} (h : Claims.resendsAt s k = false) : Claims.refusedAt s k = false := by
  simp [Claims.refusedAt, h]

theorem afterPasses_succ_of_notDue {k : Nat} (h : Claims.dueAt? s k = none) :
    afterPasses s (k + 1) = afterPasses s k := by
  have kept := slotAfter_of_accepted (refusedAt_of_not_resendsAt (resendsAt_of_none h))
  rw [afterPasses_succ, modify_self _ _ (pendAfter_of_none h), modify_self _ _ kept, passOutputs_of_none h,
    resendsAt_of_none h]
  simp [afterPasses]

/-- In the pass for its channel, a send in flight is written over in the pending table. -/
theorem afterPasses_setPend (hp : s.inFlight? c = some p) :
    (afterPasses s c.toNat).pa.set c.toNat (pendAfter s c.toNat p) =
      (afterPasses s c.toNat).pa.modify c.toNat (pendAfter s c.toNat) := by
  rw [← afterPasses_inFlight?] at hp
  exact (modify_of_getElem? _ (inFlight?_eq_some.1 hp).2.1).symm

theorem afterPasses_succ_of_exhausted (hp : s.inFlight? c = some p) (due : s.isDue p = true)
    (used : s.maxRetries.toNat ≤ p.retries.toNat) :
    afterPasses s (c.toNat + 1) = (afterPasses s c.toNat).resolve c p .failed := by
  have hdue := dueAt?_of_due hp due
  have none := resendsAt_of_exhausted hdue used
  rw [afterPasses_succ, ← afterPasses_setPend hp, pendAfter_of_exhausted hdue used,
    modify_self _ _ (slotAfter_of_accepted (refusedAt_of_not_resendsAt none)), passOutputs_of_exhausted hdue used, none]
  simp [afterPasses, State.resolve, State.setPend, State.notify]

theorem afterPasses_succ_of_resent (hp : s.inFlight? c = some p) (due : s.isDue p = true)
    (left : p.retries.toNat < s.maxRetries.toNat) (ok : Claims.answerAt s c.toNat = true) :
    afterPasses s (c.toNat + 1) = ((afterPasses s c.toNat).txWrite p.frame).setPend c
      { p with retries := p.retries + 1#8, sentAt := s.inp.now } := by
  have hdue := dueAt?_of_due hp due
  have accepted : Claims.refusedAt s c.toNat = false := by simp [Claims.refusedAt, ok]
  rw [afterPasses_succ, ← afterPasses_setPend hp, pendAfter_of_left hdue left,
    modify_self _ _ (slotAfter_of_accepted accepted), passOutputs_of_left hdue left, resendsAt_of_left hdue left, ok,
    txWrite_of_answer _ ((afterPasses_txAnswer s c.toNat).trans ok)]
  simp [afterPasses, State.setPend, Claims.resent, Claims.resendOutputs]

theorem afterPasses_succ_of_refused (hp : s.inFlight? c = some p) (due : s.isDue p = true)
    (left : p.retries.toNat < s.maxRetries.toNat) (no : Claims.answerAt s c.toNat = false) :
    afterPasses s (c.toNat + 1) =
      (((afterPasses s c.toNat).txWrite p.frame).transportFault (some c)).resolve c p .transport := by
  have hdue := dueAt?_of_due hp due
  have refused : Claims.refusedAt s c.toNat = true := by simp [Claims.refusedAt, resendsAt_of_left hdue left, no]
  have range : c.toNat < s.nCh.toNat := (inFlight?_eq_some.1 hp).1
  have fault : slotAfter s c.toNat = fun v => { v with xfault := true } := funext fun v => if_pos refused
  rw [afterPasses_succ, ← afterPasses_setPend hp, pendAfter_of_left hdue left, fault, passOutputs_of_left hdue left,
    resendsAt_of_left hdue left, no,
    transportFault_eq_modify (s := (afterPasses s c.toNat).txWrite p.frame) range,
    txWrite_of_answer _ ((afterPasses_txAnswer s c.toNat).trans no)]
  simp [afterPasses, State.resolve, State.setPend, State.notify, Claims.resent, Claims.resendOutputs]

/-- The pass for channel `c`, whatever is in flight there and whatever the transport answers. -/
theorem tickChannel_afterPasses (s : State) (low : Option Byte) (c : Byte) :
    tickChannel (afterPasses s c.toNat, low) c =
      (afterPasses s (c.toNat + 1), if Claims.refusedAt s c.toNat then low.or (some c) else low) := by
  refine tickChannel_elim (P := fun a => a = _) (fun idle => ?idle) (fun p hp early => ?early)
    (fun p hp due left ok => ?resent) (fun p hp due left no => ?refused) (fun p hp due used => ?exhausted)
  all_goals rw [afterPasses_inFlight?] at *
  case idle =>
    have notDue := dueAt?_of_idle idle
    rw [afterPasses_succ_of_notDue notDue, refusedAt_of_not_resendsAt (resendsAt_of_none notDue)]
    rfl
  case early =>
    have notDue := dueAt?_of_early hp early
    rw [afterPasses_succ_of_notDue notDue, refusedAt_of_not_resendsAt (resendsAt_of_none notDue)]
    rfl
  case resent =>
    rw [afterPasses_txAnswer] at ok
    rw [afterPasses_succ_of_resent hp due left ok]
    simp [Claims.refusedAt, ok, afterPasses]
  case refused =>
    rw [afterPasses_txAnswer] at no
    rw [afterPasses_succ_of_refused hp due left no]
    simp [Claims.refusedAt, no, resendsAt_of_left (dueAt?_of_due hp due) left]
  case exhausted =>
    rw [afterPasses_succ_of_exhausted hp due used,
      refusedAt_of_not_resendsAt (resendsAt_of_exhausted (dueAt?_of_due hp due) used)]
    rfl

end

/-! ### All passes -/

/-- Every channel of the table has its number in a byte. -/
theorem toNat_ofNat_of_mem {n k : Nat} (hn : n ≤ 256) (hk : k ∈ List.range n) : (BitVec.ofNat 8 k).toNat = k := by
  rw [BitVec.toNat_ofNat, Nat.mod_eq_of_lt (Nat.lt_of_lt_of_le (List.mem_range.1 hk) hn)]

theorem tickFold_afterPasses (s : State) : ∀ k, k ≤ 256 →
    ((List.range k).map fun c => BitVec.ofNat 8 c).foldl tickChannel (s, none) =
      (afterPasses s k, ((List.range k).find? (Claims.refusedAt s)).map fun c => BitVec.ofNat 8 c)
  | 0, _ => by rw [afterPasses_zero]; rfl
  | k + 1, hk => by
    have number := toNat_ofNat_of_mem hk (List.mem_range.2 k.lt_succ_self)
    have pass := tickChannel_afterPasses s
      (((List.range k).find? (Claims.refusedAt s)).map fun c => BitVec.ofNat 8 c) (BitVec.ofNat 8 k)
    rw [number] at pass
    rw [List.range_succ, List.map_append, List.foldl_append, tickFold_afterPasses s k (by omega), List.map_singleton,
      List.foldl_cons, List.foldl_nil, pass, List.find?_append, List.find?_singleton]
    cases (List.range k).find? (Claims.refusedAt s) <;> cases Claims.refusedAt s k <;> rfl

/-- The passes for all channels change both tables slot by slot; beyond `n_ch` no send is due. -/
theorem afterPasses_all (s : State) : afterPasses s.sample s.nCh.toNat =
    { s with
      tLast := s.inp.now
      inp := { s.inp with txAnswers := s.inp.txAnswers.drop ((List.range s.nCh.toNat).countP (Claims.resendsAt s)) }
      ch := s.ch.mapIdx (slotAfter s)
      pa := s.pa.mapIdx (pendAfter s)
      out := s.out ++ (List.range s.nCh.toNat).flatMap (Claims.passOutputs s) } := by
  have slots : mapBelow (slotAfter s) s.ch s.nCh.toNat = s.ch.mapIdx (slotAfter s) :=
    mapBelow_of_fixed _ _ fun k v h => slotAfter_of_accepted
      (refusedAt_of_not_resendsAt (resendsAt_of_none (dueAt?_of_outOfRange h))) v
  have sends : mapBelow (pendAfter s) s.pa s.nCh.toNat = s.pa.mapIdx (pendAfter s) :=
    mapBelow_of_fixed _ _ fun k p h => pendAfter_of_none (dueAt?_of_outOfRange h) p
  rw [← slots, ← sends]
  rfl

/-- What `TICK` answers: the lowest channel whose resend was refused, or `OK` (R248). -/
def tickResult (s : State) : Result :=
  match (List.range s.nCh.toNat).find? (Claims.refusedAt s) with
  | none => .ok .none
  | some c => .transport (some (BitVec.ofNat 8 c))

/-- The state after `TICK`: one pass for each channel of the table. -/
def ticked (s : State) : State := (afterPasses s.sample s.nCh.toNat).raise (tickResult s)

theorem exec_tick {s : State} (hr : s.Ready) (hn : s.nCh.toNat ≤ 256) : exec .tick s = .next (ticked s) := by
  refine execTick_next.2 ⟨hr, ?_⟩
  rw [State.channels, tickFold_afterPasses s.sample s.nCh.toNat hn, ticked, tickResult,
    show Claims.refusedAt s.sample = Claims.refusedAt s from rfl]
  cases (List.range s.nCh.toNat).find? (Claims.refusedAt s) <;> rfl

/-- Settles O22: one pass for each channel (`exec_tick`), and what they make of the tables (`afterPasses_all`). -/
theorem tickSurvivesRefusedResend : Obligations.TickSurvivesRefusedResend := by
  intro s hr hn
  rw [exec_tick hr hn, ticked, afterPasses_all]
  rfl

end Sys2Proof.Machine

/-! ## `TICK` when the transport accepts every resend (R248, R249) -/

namespace Sys2Proof.Machine

/-- Due (R249), in the words of the statement. -/
def IsDue (s : State) (p : Pending) : Prop :=
  p.valid = true ∧ s.ackTimeout.toNat ≤ s.inp.now.toNat - p.sentAt.toNat

section
variable {s : State} {k : Nat} {p : Pending}

theorem dueAt?_of_isDue (hk : k < s.nCh.toNat) (hp : s.pa[k]? = some p) (due : IsDue s p) :
    Claims.dueAt? s k = some p := by
  simp [Claims.dueAt?, hk, hp, due.1, due.2]

theorem dueAt?_of_not_isDue (hp : s.pa[k]? = some p) (due : ¬ IsDue s p) : Claims.dueAt? s k = none := by
  unfold Claims.dueAt?
  split
  · simpa [hp, IsDue, Option.filter_eq_none_iff] using due
  · rfl

theorem dueAt?_of_missing (hp : s.pa[k]? = none) : Claims.dueAt? s k = none := by
  simp [Claims.dueAt?, hp]

theorem answerAt_of_accepting (all : ∀ a ∈ s.inp.txAnswers, a = true) (k : Nat) : Claims.answerAt s k = true := by
  unfold Claims.answerAt
  cases h : s.inp.txAnswers[(List.range k).countP (Claims.resendsAt s)]? with
  | none => rfl
  | some a => exact all a (List.mem_of_getElem? h)

theorem refusedAt_of_accepting (all : ∀ a ∈ s.inp.txAnswers, a = true) (k : Nat) :
    Claims.refusedAt s k = false := by
  simp [Claims.refusedAt, answerAt_of_accepting all]

theorem mapIdx_slotAfter_of_accepting (all : ∀ a ∈ s.inp.txAnswers, a = true) :
    s.ch.mapIdx (slotAfter s) = s.ch := by
  refine List.mapIdx_eq_iff.2 fun k => ?_
  simp [funext (slotAfter_of_accepted (refusedAt_of_accepting all k))]

theorem pendAfter_of_accepting (all : ∀ a ∈ s.inp.txAnswers, a = true) (hk : k < s.nCh.toNat)
    (hp : s.pa[k]? = some p) : pendAfter s k p = Claims.served s p := by
  unfold Claims.served
  by_cases due : IsDue s p
  · rw [pendAfter, dueAt?_of_isDue hk hp due, answerAt_of_accepting all]
    exact (if_pos due).symm
  · rw [pendAfter_of_none (dueAt?_of_not_isDue hp due)]
    exact (if_neg due).symm

theorem passOutputs_of_accepting (all : ∀ a ∈ s.inp.txAnswers, a = true) (hk : k < s.nCh.toNat) :
    Claims.passOutputs s k = Claims.serviceOutputs s k := by
  rw [Claims.serviceOutputs]
  cases hp : s.pa[k]? with
  | none => exact passOutputs_of_none (dueAt?_of_missing hp)
  | some p =>
    by_cases due : IsDue s p
    · have hdue := dueAt?_of_isDue hk hp due
      simp only [Claims.passOutputs, hdue, answerAt_of_accepting all]
      exact (if_pos due).symm
    · rw [passOutputs_of_none (dueAt?_of_not_isDue hp due)]
      exact (if_neg due).symm

/-- The pass for a channel writes a frame exactly when it resends. -/
theorem length_txStream_passOutputs (s : State) (k : Nat) :
    (txStream (Claims.passOutputs s k)).length = if Claims.resendsAt s k then 1 else 0 := by
  cases hd : Claims.dueAt? s k with
  | none => rw [passOutputs_of_none hd, resendsAt_of_none hd]; rfl
  | some p =>
    rcases Nat.lt_or_ge p.retries.toNat s.maxRetries.toNat with left | used
    · rw [passOutputs_of_left hd left, resendsAt_of_left hd left]
      cases Claims.answerAt s k <;> rfl
    · rw [passOutputs_of_exhausted hd used, resendsAt_of_exhausted hd used]; rfl

/-- `TICK` uses one answer for each frame that it writes. -/
theorem length_txStream_passes (s : State) : ∀ l : List Nat,
    (txStream (l.flatMap (Claims.passOutputs s))).length = l.countP (Claims.resendsAt s)
  | [] => rfl
  | k :: l => by
    have rest := length_txStream_passes s l
    have first := length_txStream_passOutputs s k
    simp only [txStream] at rest first
    rw [List.flatMap_cons, txStream, List.filterMap_append, List.length_append, rest, first, List.countP_cons,
      Nat.add_comm]

end

/-- Settles O21: the pass of O22, with no resend refused (`refusedAt_of_accepting`). -/
theorem tickServesDueSends : Obligations.TickServesDueSends := by
  intro s hr hn hlen all
  have outputs : (List.range s.nCh.toNat).flatMap (Claims.passOutputs s) =
      (List.range s.nCh.toNat).flatMap (Claims.serviceOutputs s) :=
    List.flatMap_congr fun k hk => passOutputs_of_accepting all (List.mem_range.1 hk)
  have sends : s.pa.mapIdx (pendAfter s) = s.pa.map (Claims.served s) := by
    refine List.mapIdx_eq_iff.2 fun k => ?_
    rw [List.getElem?_map]
    cases hp : s.pa[k]? with
    | none => rfl
    | some p =>
      have hk : k < s.nCh.toNat := hlen ▸ (List.getElem?_eq_some_iff.1 hp).1
      exact congrArg some (pendAfter_of_accepting all hk hp).symm
  have result : tickResult s = .ok .none := by
    rw [tickResult, List.find?_eq_none.2 fun k _ => by simp [refusedAt_of_accepting all k]]
  rw [exec_tick hr hn, ticked, afterPasses_all, mapIdx_slotAfter_of_accepting all, sends, result, outputs,
    ← length_txStream_passes, outputs]
  rfl

end Sys2Proof.Machine

/-! ## The send in flight on one channel: what a step makes of it, and what it tells of it (R243, R251, R252) -/

namespace Sys2Proof.Machine

/-! ### The notifications of resolved sends -/

theorem resolutions_append (c : Byte) (es fs : List Output) :
    Claims.resolutions c (es ++ fs) = Claims.resolutions c es ++ Claims.resolutions c fs := List.filterMap_append

theorem resolutions_of_quiet (c : Byte) {n : Notification} (h : n.isQuiet) : Claims.resolutions c [.note n] = [] := by
  cases n with
  | ackResolved => exact h.elim
  | _ => rfl

theorem resolutions_same (c : Byte) (o : AckOutcome) : Claims.resolutions c [.note (.ackResolved c o)] = [o] := by
  simp [Claims.resolutions]

theorem resolutions_ne {c d : Byte} (o : AckOutcome) (h : d ≠ c) :
    Claims.resolutions c [.note (.ackResolved d o)] = [] := by
  simp [Claims.resolutions, h]

/-- The outputs of `t` are those of `s` and more, which tell that sends on `c` were resolved with `os`. -/
def Resolves (c : Byte) (os : List AckOutcome) (s t : State) : Prop :=
  ∃ es, t.out = s.out ++ es ∧ Claims.resolutions c es = os

section
variable {c : Byte} {os : List AckOutcome} {s t : State}

theorem Resolves.refl (c : Byte) (s : State) : Resolves c [] s s := ⟨[], (List.append_nil _).symm, rfl⟩

theorem Resolves.output (h : Resolves c os s t) (e : Output) (he : Claims.resolutions c [e] = []) :
    Resolves c os s { t with out := t.out ++ [e] } := by
  obtain ⟨es, hout, rfl⟩ := h
  exact ⟨es ++ [e], by simp [hout], by rw [resolutions_append, he, List.append_nil]⟩

theorem Resolves.told (h : Resolves c [] s t) (o : AckOutcome) :
    Resolves c [o] s (t.notify (.ackResolved c o)) := by
  obtain ⟨es, hout, hes⟩ := h
  exact ⟨es ++ [.note (.ackResolved c o)], by simp [hout], by rw [resolutions_append, hes, resolutions_same]; rfl⟩

end

/-! ### What can become of the send in flight on a channel -/

/-- Nothing happened to the send on `c`, and nothing was told of it. -/
def Untouched (c : Byte) (s t : State) : Prop := t.inFlight? c = s.inFlight? c ∧ Resolves c [] s t

/-- The send in flight on `c` has ceased, with its one notification (R252). -/
def Resolved (c : Byte) (s t : State) : Prop :=
  (∃ p, s.inFlight? c = some p) ∧ t.inFlight? c = none ∧ ∃ o, Resolves c [o] s t

/-- What a step from `s` to `t` can make of the send on channel `c`. -/
inductive Fate (c : Byte) (s t : State) : Prop
  | kept (h : Untouched c s t)
  | resolved (h : Resolved c s t)
  | resent (p : Pending) (hp : s.inFlight? c = some p) (left : p.retries.toNat < s.maxRetries.toNat)
    (now : t.inFlight? c = some { p with retries := p.retries + 1#8, sentAt := s.inp.now }) (h : Resolves c [] s t)
  | submitted (hp : s.inFlight? c = none) (h : Resolves c [] s t)

theorem Fate.of_or {c : Byte} {s t : State} (h : Untouched c s t ∨ Resolved c s t) : Fate c s t :=
  h.elim .kept .resolved

section
variable {c : Byte} {s t : State}

theorem Untouched.refl (c : Byte) (s : State) : Untouched c s s := ⟨rfl, Resolves.refl c s⟩

theorem Untouched.notify (h : Untouched c s t) (n : Notification) (quiet : n.isQuiet) : Untouched c s (t.notify n) :=
  ⟨h.1, h.2.output _ (resolutions_of_quiet c quiet)⟩

theorem Untouched.txWrite (h : Untouched c s t) (f : Frame) : Untouched c s (t.txWrite f) :=
  ⟨h.1, h.2.output _ rfl⟩

theorem Untouched.setSlot (h : Untouched c s t) (d : Byte) (v : Channel) : Untouched c s (t.setSlot d v) := h

theorem Untouched.transportFault (h : Untouched c s t) (target : Option Byte) :
    Untouched c s (t.transportFault target) :=
  transportFault_elim (fun _ => Untouched.notify (t := { t with xfault := true }) h _ trivial)
    (fun _ _ _ => h.notify _ trivial) fun d v _ _ => (h.setSlot d { v with xfault := true }).notify _ trivial

/-- A send that is resolved is the one on `c`, or another. -/
theorem Untouched.resolve (h : Untouched c s t) {d : Byte} {p : Pending} (hp : t.inFlight? d = some p)
    (o : AckOutcome) : Untouched c s (t.resolve d p o) ∨ Resolved c s (t.resolve d p o) := by
  obtain ⟨same, quiet⟩ := h
  by_cases e : d = c
  · subst e
    exact .inr ⟨⟨p, same.symm.trans hp⟩, resolve_inFlight?_same t d p o, o,
      Resolves.told (t := t.setPend d { p with valid := false }) quiet o⟩
  · exact .inl ⟨(resolve_inFlight?_ne t p o e).trans same, quiet.output _ (resolutions_ne o e)⟩

/-- Once the send on `c` has ceased, only others are left to be resolved. -/
theorem Resolved.resolve (h : Resolved c s t) {d : Byte} {p : Pending} (hp : t.inFlight? d = some p) (o : AckOutcome) :
    Resolved c s (t.resolve d p o) := by
  obtain ⟨busy, idle, o', told⟩ := h
  have e : d ≠ c := by
    rintro rfl
    cases idle.symm.trans hp
  exact ⟨busy, (resolve_inFlight?_ne t p o e).trans idle, o', told.output _ (resolutions_ne o e)⟩

theorem Untouched.cancelPending (h : Untouched c s t) (d : Byte) :
    Untouched c s (t.cancelPending d) ∨ Resolved c s (t.cancelPending d) :=
  cancelPending_elim (P := fun u => Untouched c s u ∨ Resolved c s u) (fun _ => .inl h)
    fun _ hp => h.resolve hp .cancelled

theorem Resolved.cancelPending (h : Resolved c s t) (d : Byte) : Resolved c s (t.cancelPending d) :=
  cancelPending_elim (fun _ => h) fun _ hp => h.resolve hp .cancelled

theorem Untouched.ackCompleted (h : Untouched c s t) (d : Byte) :
    Untouched c s (t.ackCompleted d) ∨ Resolved c s (t.ackCompleted d) :=
  ackCompleted_elim (P := fun u => Untouched c s u ∨ Resolved c s u) (fun _ => .inl h)
    fun _ hp => h.resolve hp .success

/-- A failed transfer: the send is written again, or it is resolved, or there is none (R245). -/
theorem Untouched.ackFailed (h : Untouched c s t) (d : Byte) (retries : t.maxRetries = s.maxRetries)
    (now : t.inp.now = s.inp.now) : Fate c s (t.ackFailed d) := by
  refine ackFailed_elim (fun _ => .kept h) (fun p hp left _ => ?resent) (fun p hp _ _ => ?refused)
    (fun p hp _ => .of_or (h.resolve hp .failed))
  case resent =>
    obtain ⟨same, quiet⟩ := h.txWrite p.frame
    by_cases e : d = c
    · subst e
      obtain ⟨range, slot, valid⟩ := inFlight?_eq_some.1 hp
      refine .resent p (h.1.symm.trans hp) (retries ▸ left) ?_ quiet
      rw [← now]
      exact setPend_inFlight?_valid (s := t.txWrite p.frame) range slot valid
    · exact .kept ⟨(setPend_inFlight?_ne (t.txWrite p.frame) _ e).trans same, quiet⟩
  case refused =>
    have faulted := (h.txWrite p.frame).transportFault (some d)
    exact .of_or (faulted.resolve (by simpa using hp) .transport)

end

/-! ### The instructions for one channel -/

theorem Ends.fate {i : Instr} {s t : State} (he : Ends i s t) (c : Byte) : Fate c s t := by
  have untouched := Untouched.refl c s
  cases he with
  | said | viewed | polled | paired => exact .kept untouched
  | noted n _ _ quiet => exact .kept (untouched.notify n quiet)
  | pollFailed => exact .kept (untouched.transportFault none)
  | sent f => exact .kept (untouched.txWrite f)
  | requestFailed _ _ f => exact .kept ((untouched.txWrite f).transportFault none)
  | writeFailed d v f =>
    exact .kept (((untouched.txWrite f).setSlot d { v with xfault := true }).notify (.transportFail (some d)) trivial)
  | wrote d v w f => exact .kept ((untouched.txWrite f).setSlot d w)
  | closed d v f => exact .of_or (((untouched.txWrite f).setSlot d { v with state := .closed }).cancelPending d)
  | submitted d v kind m f _ _ _ idle =>
    obtain ⟨-, quiet⟩ := untouched.txWrite f
    by_cases e : d = c
    · exact .submitted (e ▸ idle) quiet
    · exact .kept ⟨setPend_inFlight?_ne (s.txWrite f) _ e, quiet⟩
  | found d v kind seq data =>
    have tracked := untouched.setSlot d { v with state := .tracking }
    exact .kept ((tracked.notify (.deviceFound d) trivial).notify (.data d kind seq data) trivial)
  | timedOut d initId code v =>
    have told := untouched.notify (.channelEvent d initId code) trivial
    exact .of_or ((told.setSlot d { v with state := .closed }).cancelPending d)
  | lost d initId code v =>
    have told := untouched.notify (.channelEvent d initId code) trivial
    exact .kept (told.setSlot d { v with state := .searching })
  | completed d initId code =>
    exact .of_or ((untouched.notify (.channelEvent d initId code) trivial).ackCompleted d)
  | transferFailed d initId code =>
    exact (untouched.notify (.channelEvent d initId code) trivial).ackFailed d rfl rfl

/-! ### `ENGINE_CLOSE` and `TICK`, which serve every channel -/

theorem cancelFold_fate (s : State) (c : Byte) (cs : List Byte) :
    Untouched c s (cs.foldl State.cancelPending s) ∨ Resolved c s (cs.foldl State.cancelPending s) :=
  cancelFold_elim (P := fun a => Untouched c s a ∨ Resolved c s a)
    (fun _ d ha => ha.elim (fun h => h.cancelPending d) fun h => .inr (h.cancelPending d)) cs s
    (.inl (Untouched.refl c s))

/-- `TICK` changes the send in flight on a channel as the channel's own pass does. -/
theorem ticked_inFlight? (s : State) (c : Byte) :
    (ticked s).inFlight? c = ((s.inFlight? c).map (pendAfter s c.toNat)).filter fun p => p.valid := by
  rw [ticked, State.raise_inFlight?]
  cases hp : s.inFlight? c with
  | none =>
    refine inFlight?_eq_none.2 fun q range hq => ?_
    simp only [afterPasses_all, List.getElem?_mapIdx, Option.map_eq_some_iff] at hq
    obtain ⟨p, slot, rfl⟩ := hq
    rw [pendAfter_of_none (dueAt?_of_idle hp)]
    exact inFlight?_eq_none.1 hp p range slot
  | some p =>
    obtain ⟨range, slot, -⟩ := inFlight?_eq_some.1 hp
    have inRange : c.toNat < (afterPasses s.sample s.nCh.toNat).nCh.toNat := range
    rw [State.inFlight?, State.pend?, if_pos inRange, afterPasses_all, List.getElem?_mapIdx, slot]

theorem ticked_inFlight?_of_idle {s : State} {c : Byte} (h : s.inFlight? c = none) : (ticked s).inFlight? c = none := by
  rw [ticked_inFlight?, h]
  rfl

theorem ticked_out (s : State) :
    (ticked s).out = s.out ++ (List.range s.nCh.toNat).flatMap (Claims.passOutputs s) := by
  rw [ticked, afterPasses_all]
  rfl

theorem flatMap_eq_of_single {α : Type} {f : Nat → List α} {a : Nat} : ∀ {l : List Nat}, l.Nodup →
    (∀ k ∈ l, k ≠ a → f k = []) → (a ∉ l → f a = []) → l.flatMap f = f a
  | [], _, _, missing => (missing List.not_mem_nil).symm
  | k :: l, distinct, others, missing => by
    obtain ⟨fresh, distinct⟩ := List.nodup_cons.1 distinct
    by_cases e : k = a
    · subst e
      have rest : l.flatMap f = [] := List.flatMap_eq_nil_iff.2 fun j hj =>
        others j (List.mem_cons_of_mem k hj) fun e => fresh (e ▸ hj)
      rw [List.flatMap_cons, rest, List.append_nil]
    · rw [List.flatMap_cons, others k List.mem_cons_self e, List.nil_append]
      exact flatMap_eq_of_single distinct (fun j hj => others j (List.mem_cons_of_mem k hj)) fun h =>
        missing fun hm => (List.mem_cons.1 hm).elim (fun e' => e e'.symm) h

theorem passOutputs_of_outOfRange {s : State} {k : Nat} (h : k ∉ List.range s.nCh.toNat) :
    Claims.passOutputs s k = [] :=
  passOutputs_of_none (dueAt?_of_outOfRange (Nat.le_of_not_lt fun hk => h (List.mem_range.2 hk)))

/-- The pass for channel `k` tells of the send on `k` alone. -/
theorem resolutions_passOutputs_ne (s : State) {c : Byte} {k : Nat} (h : BitVec.ofNat 8 k ≠ c) :
    Claims.resolutions c (Claims.passOutputs s k) = [] := by
  cases hd : Claims.dueAt? s k with
  | none => rw [passOutputs_of_none hd]; rfl
  | some p =>
    rcases Nat.lt_or_ge p.retries.toNat s.maxRetries.toNat with left | used
    · rw [passOutputs_of_left hd left, Claims.resendOutputs]
      cases Claims.answerAt s k
      · exact resolutions_ne .transport h
      · rfl
    · rw [passOutputs_of_exhausted hd used, resolutions_ne .failed h]

/-- What `TICK` tells of the send on `c` is what the channel's own pass tells of it. -/
theorem ticked_resolves {s : State} (hn : s.nCh.toNat ≤ 256) (c : Byte) :
    Resolves c (Claims.resolutions c (Claims.passOutputs s c.toNat)) s (ticked s) := by
  refine ⟨_, ticked_out s, ?_⟩
  rw [Claims.resolutions, List.filterMap_flatMap]
  refine flatMap_eq_of_single (f := fun k => Claims.resolutions c (Claims.passOutputs s k)) List.nodup_range
    (fun k hk e => ?_) fun h => by rw [passOutputs_of_outOfRange h]; rfl
  refine resolutions_passOutputs_ne s fun h => e ?_
  rw [← h, toNat_ofNat_of_mem hn hk]

theorem ticked_fate {s : State} (hn : s.nCh.toNat ≤ 256) (c : Byte) : Fate c s (ticked s) := by
  have told := ticked_resolves hn c
  have after := ticked_inFlight? s c
  cases hp : s.inFlight? c with
  | none =>
    rw [passOutputs_of_none (dueAt?_of_idle hp)] at told
    exact .kept ⟨(ticked_inFlight?_of_idle hp).trans hp.symm, told⟩
  | some p =>
    obtain ⟨-, -, valid⟩ := inFlight?_eq_some.1 hp
    rw [hp, Option.map_some] at after
    cases due : s.isDue p with
    | false =>
      have notDue := dueAt?_of_early hp due
      rw [passOutputs_of_none notDue] at told
      rw [pendAfter_of_none notDue, Option.filter_some, if_pos valid] at after
      exact .kept ⟨after.trans hp.symm, told⟩
    | true =>
      have hdue := dueAt?_of_due hp due
      rcases Nat.lt_or_ge p.retries.toNat s.maxRetries.toNat with left | used
      · rw [passOutputs_of_left hdue left, BitVec.ofNat_toNat, BitVec.setWidth_eq] at told
        rw [pendAfter_of_left hdue left] at after
        cases ok : Claims.answerAt s c.toNat with
        | true =>
          rw [ok] at told after
          exact .resent p hp left (after.trans (if_pos valid)) told
        | false =>
          rw [ok] at told after
          exact .resolved ⟨⟨p, hp⟩, after, .transport, (resolutions_same c .transport) ▸ told⟩
      · rw [passOutputs_of_exhausted hdue used, BitVec.ofNat_toNat, BitVec.setWidth_eq, resolutions_same] at told
        rw [pendAfter_of_exhausted hdue used] at after
        exact .resolved ⟨⟨p, hp⟩, after, .failed, told⟩

/-! ### Every instruction -/

theorem Invariants.nCh_le {s : State} (hs : Invariants s) (ho : s.eng = .opened) : s.nCh.toNat ≤ 256 := by
  have range := hs.openRange ho
  simp only [Config.openRange, Bool.and_eq_true, decide_eq_true_eq] at range
  obtain ⟨-, -, -, -, hb⟩ := Config.wf_bounds hs.cfgWf
  have : 2 ^ s.cfg.burstChBits ≤ 2 ^ 8 := Nat.pow_le_pow_right (by decide) hb
  omega

/-- What `Fate` reads of the state before the step. -/
theorem Fate.congr {c : Byte} {s u t : State} (h : Fate c u t) (send : u.inFlight? c = s.inFlight? c)
    (retries : u.maxRetries = s.maxRetries) (now : u.inp.now = s.inp.now) (out : u.out = s.out) : Fate c s t := by
  have told {os : List AckOutcome} (h : Resolves c os u t) : Resolves c os s t := by rwa [Resolves, ← out]
  cases h with
  | kept h => exact .kept ⟨h.1.trans send, told h.2⟩
  | resolved h =>
    obtain ⟨busy, idle, o, h⟩ := h
    exact .resolved ⟨send ▸ busy, idle, o, told h⟩
  | resent p hp left again h => exact .resent p (send ▸ hp) (retries ▸ left) (now ▸ again) (told h)
  | submitted hp h => exact .submitted (send ▸ hp) (told h)

/-- What an accepted instruction makes of the send on channel `c`, and what it tells of it. -/
theorem exec_fate {i : Instr} {s t : State} (hs : Invariants s) (h : exec i s = .next t) (c : Byte) : Fate c s t := by
  have untouched := Untouched.refl c s
  cases exec_steps h with
  | opened n a r hc =>
    refine .kept ⟨?_, untouched.2.output (.transportOpen s.inp.openOk) rfl⟩
    rw [hs.closedIdle hc c]
    exact deviceOpen_inFlight? s.sample.openTransport n (a.getD s.cfg.ackTimeout) (r.getD s.cfg.maxRetries) c
  | openFailed =>
    have opened : Untouched c s s.sample.openTransport :=
      ⟨rfl, untouched.2.output (.transportOpen s.inp.openOk) rfl⟩
    exact .kept (opened.transportFault none)
  | stopped =>
    rcases cancelFold_fate s.sample c s.channels with ⟨same, quiet⟩ | ⟨busy, idle, o, told⟩
    · exact .kept ⟨same, quiet.output .transportClose rfl⟩
    · exact .resolved ⟨busy, idle, o, told.output .transportClose rfl⟩
  | ticked hr r =>
    have hn := hs.nCh_le hr.1
    rw [← Host.Outcome.next.inj ((exec_tick hr hn).symm.trans h)]
    exact ticked_fate hn c
  | starved => exact .kept untouched
  | skipped _ skip => exact .kept (Untouched.notify (t := s.sample.rxDrop (skip + 1)) untouched _ trivial)
  | received _ _ _ n _ he => exact (he.fate c).congr rfl rfl rfl rfl
  | ended _ _ he => exact (he.fate c).congr rfl rfl rfl rfl

/-- Settles O24: each of the four fates of a send (`exec_fate`) is one the statement allows. -/
theorem pendingSendResolvedExactlyOnce : Obligations.PendingSendResolvedExactlyOnce := by
  intro i s t c hs h
  cases exec_fate hs h c with
  | kept h =>
    obtain ⟨same, es, hout, hes⟩ := h
    exact ⟨es, hout, fun _ => hes, fun p hp => .inr ⟨hes, p, same.trans hp, .inl rfl⟩⟩
  | resolved h =>
    obtain ⟨⟨p, hp⟩, idle, o, es, hout, hes⟩ := h
    exact ⟨es, hout, by simp [hp], fun _ _ => .inl ⟨idle, o, hes⟩⟩
  | resent p hp left now h =>
    obtain ⟨es, hout, hes⟩ := h
    refine ⟨es, hout, fun _ => hes, fun q hq => .inr ⟨hes, _, now, .inr ?_⟩⟩
    cases hp.symm.trans hq
    exact ⟨left, rfl⟩
  | submitted hp h =>
    obtain ⟨es, hout, hes⟩ := h
    exact ⟨es, hout, fun _ => hes, by simp [hp]⟩

end Sys2Proof.Machine

/-! ## A send that is never answered (R246, R248, R250) -/

namespace Sys2Proof.Machine

/-- `TICK` is presented at time `now`, and the transport accepts every write. -/
def State.tickAt (s : State) (now : Time) : State := { s with inp := { s.inp with now := now, txAnswers := [] } }

/-- `TICK`s at `times` append `es` to the outputs, write no channel slot, and leave nothing in flight. -/
def RunEnds (times : List Time) (s : State) (es : List Output) : Prop :=
  ∃ t, Claims.tickRun times s = .next t ∧ (∀ d, t.inFlight? d = none) ∧ t.out = s.out ++ es ∧ t.ch = s.ch

section
variable {s : State} {c : Byte} {p : Pending}

theorem RunEnds.nil (idle : ∀ d, s.inFlight? d = none) : RunEnds [] s [] :=
  ⟨s, rfl, idle, (List.append_nil s.out).symm, rfl⟩

theorem RunEnds.cons {now : Time} {times : List Time} {u : State} {es fs : List Output}
    (h : exec .tick (s.tickAt now) = .next u) (hch : u.ch = s.ch) (hout : u.out = s.out ++ es)
    (rest : RunEnds times u fs) : RunEnds (now :: times) s (es ++ fs) := by
  obtain ⟨t, run, idle, out, ch⟩ := rest
  refine ⟨t, ?_, idle, ?_, ch.trans hch⟩
  · rw [← run]
    exact congrArg (andThen · (Claims.tickRun times)) h
  · rw [out, hout, List.append_assoc]

/-! ### One `TICK` -/

theorem tickAt_accepting (s : State) (now : Time) : ∀ a ∈ (s.tickAt now).inp.txAnswers, a = true := nofun

theorem ticked_tickAt_ch (s : State) (now : Time) : (ticked (s.tickAt now)).ch = s.ch := by
  rw [ticked, afterPasses_all]
  exact mapIdx_slotAfter_of_accepting (tickAt_accepting s now)

/-- With nothing else in flight, the outputs of `TICK` are those of the pass for `c`. -/
theorem ticked_out_of_sole (hn : s.nCh.toNat ≤ 256) (sole : ∀ d, d ≠ c → s.inFlight? d = none) :
    (ticked s).out = s.out ++ Claims.passOutputs s c.toNat := by
  rw [ticked_out]
  congr 1
  refine flatMap_eq_of_single List.nodup_range (fun k hk e => passOutputs_of_none ?_) passOutputs_of_outOfRange
  have number := toNat_ofNat_of_mem hn hk
  rw [← number]
  refine dueAt?_of_idle (sole _ fun h => e ?_)
  rw [← h, number]

/-- A send whose window has passed at time `now` is due (R249). -/
theorem isDue_tickAt {now : Time} (h : p.sentAt.toNat + s.ackTimeout.toNat ≤ now.toNat) :
    (s.tickAt now).isDue p = true :=
  decide_eq_true (Nat.le_sub_of_add_le' h)

theorem ticked_of_left {now : Time} (hn : s.nCh.toNat ≤ 256) (sole : ∀ d, d ≠ c → s.inFlight? d = none)
    (hp : s.inFlight? c = some p) (due : p.sentAt.toNat + s.ackTimeout.toNat ≤ now.toNat)
    (left : p.retries.toNat < s.maxRetries.toNat) :
    (ticked (s.tickAt now)).inFlight? c = some { p with retries := p.retries + 1#8, sentAt := now }
      ∧ (ticked (s.tickAt now)).out = s.out ++ [.tx p.frame true] := by
  have hdue : Claims.dueAt? (s.tickAt now) c.toNat = some p := dueAt?_of_due (s := s.tickAt now) hp (isDue_tickAt due)
  have ok : Claims.answerAt (s.tickAt now) c.toNat = true := answerAt_of_accepting (tickAt_accepting s now) _
  constructor
  · rw [ticked_inFlight?, show (s.tickAt now).inFlight? c = some p from hp, Option.map_some,
      pendAfter_of_left hdue left, ok]
    exact if_pos (inFlight?_eq_some.1 hp).2.2
  · rw [ticked_out_of_sole (s := s.tickAt now) hn sole, passOutputs_of_left hdue left, ok]
    rfl

theorem ticked_of_exhausted {now : Time} (hn : s.nCh.toNat ≤ 256) (sole : ∀ d, d ≠ c → s.inFlight? d = none)
    (hp : s.inFlight? c = some p) (due : p.sentAt.toNat + s.ackTimeout.toNat ≤ now.toNat)
    (used : s.maxRetries.toNat ≤ p.retries.toNat) :
    (ticked (s.tickAt now)).inFlight? c = none
      ∧ (ticked (s.tickAt now)).out = s.out ++ [.note (.ackResolved c .failed)] := by
  have hdue : Claims.dueAt? (s.tickAt now) c.toNat = some p := dueAt?_of_due (s := s.tickAt now) hp (isDue_tickAt due)
  constructor
  · rw [ticked_inFlight?, show (s.tickAt now).inFlight? c = some p from hp, Option.map_some,
      pendAfter_of_exhausted hdue used]
    rfl
  · rw [ticked_out_of_sole (s := s.tickAt now) hn sole, passOutputs_of_exhausted hdue used, BitVec.ofNat_toNat,
      BitVec.setWidth_eq]
    rfl

end

/-! ### The `TICK`s after the send has failed, and those before -/

theorem idle_runEnds : ∀ (times : List Time) (s : State), s.eng = .opened → s.nCh.toNat ≤ 256 →
    (∀ d, s.inFlight? d = none) → Claims.Spaced 0 s.tLast.toNat times → RunEnds times s []
  | [], _, _, _, idle, _ => .nil idle
  | now :: times, s, ho, hn, idle, ⟨time, spaced⟩ => by
    have tick := exec_tick (s := s.tickAt now) ⟨ho, time⟩ hn
    have out : (ticked (s.tickAt now)).out = s.out ++ [] := by
      rw [ticked_out_of_sole (s := s.tickAt now) (c := 0#8) hn fun d _ => idle d,
        passOutputs_of_none (dueAt?_of_idle (s := s.tickAt now) (idle 0#8))]
      rfl
    exact .cons tick (ticked_tickAt_ch s now) out (idle_runEnds times _ ho hn
      (fun d => ticked_inFlight?_of_idle (s := s.tickAt now) (idle d)) spaced)

/-- With `n` retries left, `n + 1` due `TICK`s write the frame `n` times and give up; later ones do nothing. -/
theorem unanswered_runEnds {c : Byte} {later : List Time} {n : Nat} : ∀ {times : List Time} {s : State} {p : Pending},
    s.eng = .opened → s.nCh.toNat ≤ 256 → (∀ d, d ≠ c → s.inFlight? d = none) → s.inFlight? c = some p →
    p.retries.toNat + n = s.maxRetries.toNat → times.length = n + 1 →
    Claims.Spaced s.ackTimeout.toNat p.sentAt.toNat times → Claims.Spaced 0 s.tLast.toNat (times ++ later) →
    RunEnds (times ++ later) s (List.replicate n (.tx p.frame true) ++ [.note (.ackResolved c .failed)]) := by
  induction n with
  | zero =>
    intro times s p ho hn sole hp left hlen window spaced
    obtain ⟨now, rfl⟩ := List.length_eq_one_iff.1 hlen
    obtain ⟨due, -⟩ := window
    obtain ⟨time, spaced⟩ := spaced
    have tick := exec_tick (s := s.tickAt now) ⟨ho, time⟩ hn
    obtain ⟨gone, out⟩ := ticked_of_exhausted hn sole hp due left.ge
    have idle (d : Byte) : (ticked (s.tickAt now)).inFlight? d = none := by
      by_cases e : d = c
      · exact e ▸ gone
      · exact ticked_inFlight?_of_idle (s := s.tickAt now) (sole d e)
    have rest := idle_runEnds later (ticked (s.tickAt now)) ho hn idle spaced
    have run := RunEnds.cons tick (ticked_tickAt_ch s now) out rest
    exact run
  | succ n ih =>
    intro times s p ho hn sole hp left hlen window spaced
    obtain ⟨now, times, rfl⟩ := List.exists_cons_of_length_eq_add_one hlen
    obtain ⟨due, window⟩ := window
    obtain ⟨time, spaced⟩ := spaced
    have tick := exec_tick (s := s.tickAt now) ⟨ho, time⟩ hn
    obtain ⟨again, out⟩ := ticked_of_left hn sole hp due (by omega)
    have counted : (p.retries + 1#8).toNat + n = s.maxRetries.toNat := by
      have := s.maxRetries.isLt
      simp only [BitVec.toNat_add, BitVec.toNat_ofNat]
      omega
    have others (d : Byte) (e : d ≠ c) : (ticked (s.tickAt now)).inFlight? d = none :=
      ticked_inFlight?_of_idle (s := s.tickAt now) (sole d e)
    have rest := ih (s := ticked (s.tickAt now)) ho hn others again counted (Nat.succ.inj hlen) window spaced
    have run := RunEnds.cons tick (ticked_tickAt_ch s now) out rest
    exact run

/-- Settles O23: a new send has all its retries left (`unanswered_runEnds`). -/
theorem unansweredSendFailsAfterBound : Obligations.UnansweredSendFailsAfterBound := by
  intro s c p times later ho hs hp fresh sole hlen window lower spaced
  have left : p.retries.toNat + s.maxRetries.toNat = s.maxRetries.toNat := by rw [fresh]; exact Nat.zero_add _
  have fromLast : Claims.Spaced 0 s.tLast.toNat (times ++ later) := by
    cases times with
    | nil => cases hlen
    | cons now times => exact ⟨lower now List.mem_cons_self, spaced.2⟩
  obtain ⟨t, run, idle, out, ch⟩ :=
    unanswered_runEnds ho (hs.nCh_le ho) sole hp left hlen window fromLast
  exact ⟨t, run, idle, out.trans (List.append_assoc _ _ _).symm, ch⟩

end Sys2Proof.Machine

/-! ## `RX_POLL` (R284) -/

namespace Sys2Proof.Machine

/-- The bytes that a read returned are gone from the transport, however many were asked for. -/
theorem drop_length_take {α : Type} (l : List α) (n : Nat) : l.drop (l.take n).length = l.drop n := by
  rw [List.drop_eq_drop_iff, List.length_take, Nat.min_assoc, Nat.min_self]

/-- A poll whose read fails reports it as a fault of the engine (R284, R308). -/
theorem rxPoll_of_failed {s : State} (hr : s.Ready) (hread : s.inp.read = .failed) :
    exec .rxPoll s = .next ((s.sample.transportFault none).raise (.transport none)) := by
  rw [exec, execRxPoll, accept_ready hr, State.sample_inp, hread]

/-- Settles O14: one lemma per answer of the transport (`rxPoll_of_failed`, `rxPoll_of_read`). -/
theorem rxPollAppendsOrReports : Obligations.RxPollAppendsOrReports := by
  refine ⟨⟨rfl, fun _ => rfl⟩, fun s hr => ⟨fun hread => ?failed, fun most hread => ?read⟩⟩
  case failed => exact rxPoll_of_failed hr hread
  case read =>
    rw [rxPoll_of_read hr hread rfl, drop_length_take, List.length_take]
    rfl

end Sys2Proof.Machine

/-! ## `ENGINE_OPEN` (R23, R41, R280, R308) -/

namespace Sys2Proof.Machine

theorem openRange_iff {cfg : Config} {n : BitVec 9} {a : Time} :
    cfg.openRange n a = true ↔ 1 ≤ n.toNat ∧ n.toNat ≤ 2 ^ cfg.burstChBits ∧ 1 ≤ a.toNat := by
  simp [Config.openRange, and_assoc]

section
variable {s : State} {n : BitVec 9} {a : Option Time} (r : Option Byte)
  (range : s.cfg.openRange n (a.getD s.cfg.ackTimeout) = true) (hc : s.eng = .closed)
  (time : s.tLast.toNat ≤ s.inp.now.toNat)
include range hc time

/-- An `ENGINE_OPEN` in range whose transport opens. -/
theorem engineOpen_of_ok (ok : s.inp.openOk = true) : exec (.engineOpen n a r) s = .next
    ((s.sample.openTransport.deviceOpen n (a.getD s.cfg.ackTimeout) (r.getD s.cfg.maxRetries)).ret .none) := by
  rw [exec, execEngineOpen, openWith, range, inRange_true, acceptClosed_next]
  exact ⟨hc, time, (if_pos ok).symm⟩

/-- An `ENGINE_OPEN` in range whose transport does not open. -/
theorem engineOpen_of_failed (no : s.inp.openOk = false) : exec (.engineOpen n a r) s = .next
    ((s.sample.openTransport.transportFault none).raise (.transport none)) := by
  rw [exec, execEngineOpen, openWith, range, inRange_true, acceptClosed_next]
  exact ⟨hc, time, (if_neg (ne_true_of_eq_false no)).symm⟩

end

/-- The call of the transport's `open`, then the fault of the engine, in the words of the statement. -/
theorem openTransport_transportFault {s : State} (no : s.inp.openOk = false) :
    (s.sample.openTransport.transportFault none).raise (.transport none) =
      { Claims.answered s (.transport none) with
        xfault := true
        out := s.out ++ [.transportOpen false, .note (.transportFail none)] } := by
  simp [transportFault_engine, State.openTransport, State.sample, State.notify, State.raise, Claims.answered, no]

/-- Settles O32: an operation in range either opens the device, whose slots are fresh, or reports the failed open. -/
theorem engineOpenIsReset : Obligations.EngineOpenIsReset := by
  intro s n a r hc time low high positive
  have range := openRange_iff.2 ⟨low, high, positive⟩
  refine ⟨fun ok => ⟨_, engineOpen_of_ok r range hc time ok, ?opened⟩, fun no => ?failed⟩
  case opened =>
    refine ⟨rfl, rfl, ?ackTimeout, ?defaultTimeout, ?maxRetries, ?defaultRetries, rfl, rfl, rfl, rfl, rfl, ?outputs,
      List.length_replicate, List.length_replicate, ?slots, ?sends⟩
    case ackTimeout | maxRetries =>
      rintro x rfl
      rfl
    case defaultTimeout | defaultRetries =>
      rintro rfl
      rfl
    case outputs =>
      rw [← ok]
      rfl
    case slots =>
      intro v hv
      obtain rfl : v = Channel.fresh := List.eq_of_mem_replicate hv
      exact ⟨rfl, rfl, rfl, rfl, rfl, rfl⟩
    case sends =>
      intro p hp
      obtain rfl : p = Pending.fresh := List.eq_of_mem_replicate hp
      rfl
  case failed => rw [engineOpen_of_failed r range hc time no, openTransport_transportFault no]

end Sys2Proof.Machine

/-! ## `ENGINE_CLOSE`: the cancellations, channel by channel (R247, R281) -/

namespace Sys2Proof.Machine

/-- A pending slot whose send has been resolved: the other bits stay (assumption 18). -/
def Pending.ceased (p : Pending) : Pending := { p with valid := false }

theorem Pending.ceased_of_idle {p : Pending} (h : p.valid = false) : p.ceased = p := by
  rw [Pending.ceased, ← h]

/-- A send is in flight in slot `k` of the pending table, in the words of the statement. -/
def sendingAt (s : State) (k : Nat) : Bool := ((s.pa[k]?).map Pending.valid).getD false

/-- The state after the cancellations for the channels below `k`. -/
def afterCancels (s : State) (k : Nat) : State :=
  { s with
    pa := mapBelow (fun _ => Pending.ceased) s.pa k
    out := s.out ++ ((List.range k).filter (sendingAt s)).map fun c =>
      .note (.ackResolved (BitVec.ofNat 8 c) .cancelled) }

section
variable {s : State} {c : Byte} {p : Pending}

theorem afterCancels_zero (s : State) : afterCancels s 0 = s := by
  simp [afterCancels, mapBelow_zero]

/-- One cancellation more: the pending table changes at its own channel. -/
theorem afterCancels_succ (s : State) (k : Nat) : afterCancels s (k + 1) =
    { afterCancels s k with
      pa := (afterCancels s k).pa.modify k Pending.ceased
      out := (afterCancels s k).out
        ++ if sendingAt s k then [.note (.ackResolved (BitVec.ofNat 8 k) .cancelled)] else [] } := by
  cases h : sendingAt s k <;> simp [afterCancels, mapBelow_succ, List.range_succ, List.filter_append, h]

/-- The cancellation for a channel finds its pending slot as it was. -/
theorem afterCancels_pa (s : State) (k : Nat) : (afterCancels s k).pa[k]? = s.pa[k]? :=
  getElem?_mapBelow_self _ _ _

theorem afterCancels_inFlight? (s : State) (c : Byte) : (afterCancels s c.toNat).inFlight? c = s.inFlight? c := by
  simp only [State.inFlight?, State.pend?, afterCancels_pa]
  rfl

theorem sendingAt_of_inFlight (h : s.inFlight? c = some p) : sendingAt s c.toNat = true := by
  obtain ⟨-, hp, hv⟩ := inFlight?_eq_some.1 h
  simp [sendingAt, hp, hv]

theorem sendingAt_of_idle (range : c.toNat < s.nCh.toNat) (h : s.inFlight? c = none) :
    sendingAt s c.toNat = false := by
  cases hp : s.pa[c.toNat]? with
  | none => simp [sendingAt, hp]
  | some p => simp [sendingAt, hp, inFlight?_eq_none.1 h p range hp]

/-- Clearing the valid bit of a slot with nothing in flight changes nothing. -/
theorem modify_ceased_of_idle (range : c.toNat < s.nCh.toNat) (h : s.inFlight? c = none) :
    s.pa.modify c.toNat Pending.ceased = s.pa := by
  cases hp : s.pa[c.toNat]? with
  | none => simp [List.modify_eq_set_getElem?, hp]
  | some p =>
    rw [modify_of_getElem? _ hp, Pending.ceased_of_idle (inFlight?_eq_none.1 h p range hp)]
    obtain ⟨lt, rfl⟩ := List.getElem?_eq_some_iff.1 hp
    exact List.set_getElem_self lt

/-- The cancellation for channel `c`, whether or not a send is in flight there. -/
theorem cancelPending_afterCancels (range : c.toNat < s.nCh.toNat) :
    (afterCancels s c.toNat).cancelPending c = afterCancels s (c.toNat + 1) := by
  rw [afterCancels_succ]
  refine cancelPending_elim (P := fun t => t = _) (fun idle => ?idle) (fun p busy => ?busy)
  case idle =>
    have none : s.inFlight? c = none := (afterCancels_inFlight? s c).symm.trans idle
    rw [modify_ceased_of_idle (s := afterCancels s c.toNat) range idle, sendingAt_of_idle range none]
    simp
  case busy =>
    have some : s.inFlight? c = some p := (afterCancels_inFlight? s c).symm.trans busy
    rw [modify_of_getElem? _ (inFlight?_eq_some.1 busy).2.1, sendingAt_of_inFlight some]
    simp [State.resolve, State.setPend, State.notify, Pending.ceased]

end

/-- The cancellations of `ENGINE_CLOSE`, in ascending channel order. -/
theorem cancelFold_afterCancels {s : State} (hn : s.nCh.toNat ≤ 256) : ∀ k, k ≤ s.nCh.toNat →
    ((List.range k).map fun c => BitVec.ofNat 8 c).foldl State.cancelPending s = afterCancels s k
  | 0, _ => (afterCancels_zero s).symm
  | k + 1, hk => by
    have number : (BitVec.ofNat 8 k).toNat = k := toNat_ofNat_of_mem hn (List.mem_range.2 hk)
    have one := cancelPending_afterCancels (s := s) (c := BitVec.ofNat 8 k) (by rwa [number])
    rw [number] at one
    rw [List.range_succ, List.map_append, List.foldl_append, cancelFold_afterCancels hn k (Nat.le_of_succ_le hk)]
    exact one

theorem mapBelow_length {α : Type} (f : α → α) (l : List α) : mapBelow (fun _ => f) l l.length = l.map f := by
  refine List.mapIdx_eq_iff.2 fun c => ?_
  rw [List.getElem?_map]
  cases h : l[c]? with
  | none => rfl
  | some x => simp [(List.getElem?_eq_some_iff.1 h).1]

/-- The cancellations for all channels reach every slot of the pending table. -/
theorem afterCancels_all {s : State} (hpa : s.pa.length = s.nCh.toNat) : afterCancels s s.nCh.toNat =
    { s with
      pa := s.pa.map Pending.ceased
      out := s.out ++ ((List.range s.nCh.toNat).filter (sendingAt s)).map fun c =>
        .note (.ackResolved (BitVec.ofNat 8 c) .cancelled) } := by
  have all := mapBelow_length Pending.ceased s.pa
  rw [hpa] at all
  rw [afterCancels, all]

/-- Settles O34: the cancellations for all channels (`cancelFold_afterCancels`, `afterCancels_all`), then the engine
stops. -/
theorem engineCloseCancelsEverything : Obligations.EngineCloseCancelsEverything := by
  refine ⟨⟨rfl, fun _ => rfl⟩, fun s hr hn hpa => execEngineClose_next.2 ⟨hr, ?_⟩⟩
  have cancelled := (cancelFold_afterCancels (s := s.sample) hn s.nCh.toNat le_rfl).trans
    (afterCancels_all (s := s.sample) hpa)
  rw [State.channels, cancelled]
  rfl

end Sys2Proof.Machine

/-! ## `REQUEST` (R282) -/

namespace Sys2Proof.Machine

/-- What a refused write for the engine leaves behind (R282, R283). -/
theorem written_engineFault (s : State) (f : Frame) :
    ((Claims.written s f false).transportFault none).raise (.transport none) =
      { Claims.written s f false with
        xfault := true
        out := s.out ++ [.tx f false, .note (.transportFail none)]
        result := some (.transport none) } := by
  simp [transportFault_engine, State.notify, State.raise, Claims.written]

/-- Settles O35: the three branches of `Emit` for the engine; `Slot` is no part of the operation. -/
theorem requestNeedsNoChannel : Obligations.RequestNeedsNoChannel := by
  refine ⟨fun _ _ => ⟨rfl, fun _ => rfl⟩, fun s ch reqId hr => ?_⟩
  have encoded (short : 2 ≤ s.cfg.maxContent) : encodeMsg s.cfg (.requestMessage ch reqId) =
      .ok (Claims.frameOf s.cfg s.cfg.idRequestMessage [ch, reqId]) := encodeMsg_of_short short
  rw [exec, execRequest, accept_ready hr]
  refine ⟨fun long => ?encoding, fun short ok => ?accepted, fun short no => ?refused⟩
  case encoding =>
    have refused : encodeMsg s.cfg (.requestMessage ch reqId) = .error .tooLong := encodeMsg_of_long long
    rw [emit_of_error (s := s.sample) refused]
    rfl
  case accepted =>
    rw [emit_of_accepted (s := s.sample) (encoded short) ok, sample_txWrite _ ok]
    rfl
  case refused =>
    rw [emit_of_failed (s := s.sample) (encoded short) no, sample_txWrite _ no, written_engineFault]

end Sys2Proof.Machine

/-! ## The status reads (R285, R286) -/

namespace Sys2Proof.Machine

/-- The pending bit that `GET_CHANNEL` shows is the valid bit of the slot. -/
theorem inFlight?_isSome {s : State} {c : Byte} {p : Pending} (range : c.toNat < s.nCh.toNat)
    (hp : s.pa[c.toNat]? = some p) : (s.inFlight? c).isSome = p.valid := by
  cases hv : p.valid with
  | true => rw [inFlight?_eq_some.2 ⟨range, hp, hv⟩, Option.isSome_some]
  | false =>
    rw [inFlight?_eq_none.2 fun q _ hq => ?_, Option.isSome_none]
    cases hp.symm.trans hq
    exact hv

/-- `GET_CHANNEL` of a slot shows its view and takes one index of free values. -/
theorem getChannel_of_slot {s : State} {c : Byte} {v : Channel} (hr : s.Ready) (hv : s.slot? c = some v) :
    exec (.getChannel c) s = .next
      (s.sample.useFree.ret (.channel (viewChannel s.freeIdx v (s.inFlight? c).isSome))) := by
  rw [exec, execGetChannel, accept_ready hr, withSlot_of_slot (s := s.sample) hv]
  rfl

/-- Settles O36: what `viewChannel` shows of the fields with a value, and `inFlight?_isSome` for the pending bit; the
engine that answers `GET_ENGINE` is open because the operation is accepted. -/
theorem statusReadsReturnState : Obligations.StatusReadsReturnState := by
  refine ⟨fun _ => ⟨rfl, fun _ => rfl⟩, ⟨rfl, fun _ => rfl⟩, fun s ch hr => ⟨fun range => ?unknown,
    fun v p hv hp => ?known⟩, fun s hr => ?engine⟩
  case unknown =>
    rw [exec, execGetChannel, accept_ready hr, withSlot_of_none (s := s.sample) (slot?_of_outOfRange range)]
    rfl
  case known =>
    refine ⟨_, getChannel_of_slot hr (slot?_eq_some.2 hv), rfl, rfl, rfl, rfl, rfl, rfl, inFlight?_isSome hv.1 hp,
      fun assigned => ?assigned, fun idSet => ?idSet, fun rfSet => if_pos rfSet, fun periodSet => if_pos periodSet⟩
    case assigned => exact ⟨if_neg assigned, if_neg assigned⟩
    case idSet => exact ⟨if_pos idSet, if_pos idSet, if_pos idSet⟩
  case engine =>
    rw [exec, execGetEngine, accept_ready hr, ← hr.1]
    rfl

end Sys2Proof.Machine

/-! ## What is accepted, and that it is answered (R10, R21, R33, R36, R352) -/

namespace Sys2Proof.Machine

/-! ### Every next state shows a result (R36) -/

theorem Ends.answered {i : Instr} {s t : State} (he : Ends i s t) : ∃ r, t.result = some r := by
  cases he with
  | transferFailed =>
    exact ackFailed_elim (P := fun t => ∃ r, t.result = some r)
      (fun _ => ⟨_, rfl⟩) (fun _ _ _ _ => ⟨_, rfl⟩) (fun _ _ _ _ => ⟨_, rfl⟩) (fun _ _ _ => ⟨_, rfl⟩)
  | _ => exact ⟨_, rfl⟩

/-- `RX_STEP` on a frame and the local instructions answer as `Ends` says; the other ways write a result of their own. -/
theorem exec_answered {i : Instr} {s t : State} (h : exec i s = .next t) : ∃ r, t.result = some r := by
  cases exec_steps h with
  | received _ _ _ _ _ he | ended _ _ he => exact he.answered
  | _ => exact ⟨_, rfl⟩

theorem exec_answers_of_next {i : Instr} {s u : State} (h : exec i s = .next u) :
    ∃ t r, exec i s = .next t ∧ t.result = some r := by
  obtain ⟨r, hr⟩ := exec_answered h
  exact ⟨u, r, h, hr⟩

/-! ### Every operation but `ENGINE_OPEN` -/

/-- Every operation but `ENGINE_OPEN` is one acceptance test. `RX_STEP` on a frame leaves the test to the frame's row,
where it reads the same: consuming the frame changes neither the engine's state nor a time. -/
theorem exec_eq_accept {i : Instr} (ho : Claims.isEngineOpen i = false) (s : State) :
    ∃ k : State → State, exec i s = accept s k := by
  have ofLocal (hl : isLocal i = true) : ∃ k : State → State, exec i s = accept s k := by
    obtain ⟨k, hk⟩ := exec_shape hl
    exact ⟨k, hk s⟩
  cases i with
  | engineOpen => cases ho
  | engineClose | tick =>
    simp only [exec, execEngineClose, execTick]
    exact ⟨_, rfl⟩
  | rxStep =>
    show ∃ k, execRxStep s = accept s k
    refine execRxStep_elim (P := fun a => ∃ k, a = accept s k) (fun _ _ => ⟨_, rfl⟩) (fun _ _ => ⟨_, rfl⟩) ?frame
    case frame =>
      intro msgId content n _
      obtain ⟨k, hk⟩ := exec_shape (frameInstr_isLocal s.cfg msgId content).1
      exact ⟨fun u => k (u.rxDrop n), hk (s.rxDrop n)⟩
  | _ => exact ofLocal rfl

theorem operandsInRange_of_not_engineOpen (cfg : Config) {i : Instr} (ho : Claims.isEngineOpen i = false) :
    Claims.operandsInRange cfg i = true := by
  cases i with
  | engineOpen => cases ho
  | _ => rfl

/-! ### `ENGINE_OPEN` (R280) -/

theorem acceptClosed_of_opened {s : State} {k : State → State} (he : s.eng = .opened) :
    acceptClosed s k = .refused .engineOpen := by
  simp only [acceptClosed, he]

theorem acceptClosed_of_late {s : State} {k : State → State} (he : s.eng = .closed)
    (late : s.inp.now.toNat < s.tLast.toNat) : acceptClosed s k = .refused .timeBackwards := by
  simp only [acceptClosed, he, if_pos late]

/-- `ENGINE_OPEN` is the test of its operands before the test of the closed engine and the time. -/
theorem engineOpen_eq_inRange (n : BitVec 9) (a : Option Time) (r : Option Byte) (s : State) : ∃ k : State → State,
    exec (.engineOpen n a r) s = inRange (Claims.operandsInRange s.cfg (.engineOpen n a r)) (acceptClosed s k) :=
  ⟨_, rfl⟩

theorem eng_eq_opened_of_ne_closed {s : State} (h : s.eng ≠ .closed) : s.eng = .opened := by
  cases he : s.eng with
  | closed => exact absurd he h
  | opened => rfl

/-- Settles O37: `ENGINE_OPEN` is refused by `inRange` or `acceptClosed`, any other operation by `accept`, whose operands
are always in range; what passes the tests is a next state, and every next state is answered (`exec_answers_of_next`). -/
theorem acceptedExactlyWhenAllowed : Obligations.AcceptedExactlyWhenAllowed := by
  intro i s
  cases ho : Claims.isEngineOpen i with
  | false =>
    obtain ⟨k, hk⟩ := exec_eq_accept ho s
    have opened (allowed : false = true ↔ s.eng = .closed) : s.eng = .opened :=
      eng_eq_opened_of_ne_closed fun hc => Bool.false_ne_true (allowed.2 hc)
    refine ⟨fun out => ?range, fun _ _ hc => hk.trans (accept_of_closed hc), nofun,
      fun _ allowed late => hk.trans (accept_of_late (opened allowed) late),
      fun _ allowed time => exec_answers_of_next (hk.trans (accept_ready ⟨opened allowed, time⟩ k))⟩
    case range => exact absurd ((operandsInRange_of_not_engineOpen s.cfg ho).symm.trans out) nofun
  | true =>
    obtain ⟨n, a, r, rfl⟩ := isEngineOpen_eq_true ho
    obtain ⟨k, hk⟩ := engineOpen_eq_inRange n a r s
    have tested (range : Claims.operandsInRange s.cfg (.engineOpen n a r) = true) :
        exec (.engineOpen n a r) s = acceptClosed s k := by rw [hk, range, inRange_true]
    refine ⟨fun out => ?range, nofun, fun range _ he => (tested range).trans (acceptClosed_of_opened he),
      fun range allowed late => (tested range).trans (acceptClosed_of_late (allowed.1 rfl) late),
      fun range allowed time => exec_answers_of_next
        ((tested range).trans (acceptClosed_next.2 ⟨allowed.1 rfl, time, rfl⟩))⟩
    case range => rw [hk, out, inRange_false]

end Sys2Proof.Machine
